-- ==== Sys2Proof/Word.lean ====
section
/-!
DEFINITION. The word types of the block: bytes on the bus, 4-bit bus addresses, 2-bit register numbers and the
16-bit register values (R9, R33).
-/

namespace Sys2Proof

/-- A byte as it travels on the line, bit 7 first (R36). -/
abbrev Byte := BitVec 8

/-- A bus address, the field `cmd[7:4]` and the register `dev[k].addr` (R21, R33). -/
abbrev BusAddr := BitVec 4

/-- A register number 0 to 3, the field `cmd[1:0]` (R33, R55). -/
abbrev RegNum := BitVec 2

/-- A 16-bit register value, handed over as `(b0 << 8) | b1` (R36, R59). -/
abbrev Word16 := BitVec 16

end Sys2Proof
end

