-- ==== Sys2Proof/Config.lean ====
section
/-!
DEFINITION. The build-time configuration (R7 to R12, R28, R29) as one plain record. The spec leaves its values
open, so the machine carries a `Config` as a constant field of its state and a claim speaks of every well-formed
one (R30, WellFormed.lean). `Config.tc1` with `Timing.tt1` is the spec's own test instance (95_test_vectors.md §1).
-/

namespace Sys2Proof

/-- The device classes, in the fixed order KBD, MOUSE, ARB (R7, R154). -/
inductive DevClass where
  | kbd
  | mouse
  | arb
deriving DecidableEq, Repr

/-- The fixed class order in which every rule that iterates over classes runs (R7). -/
def DevClass.all : List DevClass := [.kbd, .mouse, .arb]

/-- The two resolutions of the tick counter (R10, R20). -/
inductive Res where
  | fine
  | coarse
deriving DecidableEq, Repr

/-- Which of the two duration tables is selected at build time (R8). -/
inductive Speed where
  | full
  | half
deriving DecidableEq, Repr

/-- One duration table, R29: every field an integer tick count in the resolution `Timing.fields` gives it. -/
structure Timing where
  tAttnMin : Nat
  tReset : Nat
  tSyncMin : Nat
  tSyncMax : Nat
  tBitLowMin : Nat
  tBitLowMax : Nat
  tBitSplit : Nat
  tBitHighMax : Nat
  tBitShort : Nat
  tBitLong : Nat
  tSrqAssert : Nat
  tSrqCeil : Nat
  tTlt : Nat
  tListenStart : Nat
  tListenResync : Nat
deriving DecidableEq, Repr

/-- The resolution column of R29's table. -/
def Timing.fields (t : Timing) : List (Res × Nat) :=
  [(.coarse, t.tAttnMin), (.coarse, t.tReset), (.fine, t.tSyncMin), (.fine, t.tSyncMax),
   (.fine, t.tBitLowMin), (.fine, t.tBitLowMax), (.fine, t.tBitSplit), (.fine, t.tBitHighMax),
   (.fine, t.tBitShort), (.fine, t.tBitLong), (.coarse, t.tSrqAssert), (.coarse, t.tSrqCeil),
   (.coarse, t.tTlt), (.coarse, t.tListenStart), (.fine, t.tListenResync)]

/-- What the build fixes for one class: membership in `PRESENT` (R7), `DEFAULT_ADDR[k]`, `DEFAULT_HANDLER[k]`
and `R3_HI[k]` (R12, R28). -/
structure ClassConfig where
  present : Bool
  defaultAddr : BusAddr
  defaultHandler : Byte
  r3Hi : BitVec 4
deriving DecidableEq, Repr

/-- The configuration of R28. `fineTickSeconds` (a numerator and a denominator) is R10's informative tick length:
no rule reads it. `acceptKbd` is `ACCEPT_HANDLERS[KBD]`, "a set of two 8-bit values" (R12). -/
structure Config where
  kbd : ClassConfig
  mouse : ClassConfig
  arb : ClassConfig
  speed : Speed
  timingFull : Timing
  timingHalf : Timing
  coarseRatio : Nat
  pollGap : Nat
  fineTickSeconds : Nat × Nat
  acceptKbd : Byte × Byte
  handlerSelftest : Byte
  handlerCollisionAck : Byte
  mouseClampMin : Int
  mouseClampMax : Int
  mouseAccMin : Int
  mouseAccMax : Int
  kbdR2Clear : Word16
deriving DecidableEq, Repr

/-- The selected table `TIMING` (R8). -/
def Config.timing (c : Config) : Timing :=
  match c.speed with
  | .full => c.timingFull
  | .half => c.timingHalf

/-- The build-time record of class `k`. -/
def Config.classCfg (c : Config) : DevClass → ClassConfig
  | .kbd => c.kbd
  | .mouse => c.mouse
  | .arb => c.arb

/-- `k ∈ PRESENT` (R7). -/
def Config.present (c : Config) (k : DevClass) : Bool := (c.classCfg k).present

/-- `ACCEPT_HANDLERS[k]`: two values for the keyboard, none for the others (R12, R118). -/
def Config.acceptHandlers (c : Config) : DevClass → List Byte
  | .kbd => [c.acceptKbd.1, c.acceptKbd.2]
  | .mouse => []
  | .arb => []

/-- `r_ticks(res)`: the length of one counter tick in fine ticks (R10, R65). -/
def Config.rTicks (c : Config) : Res → Nat
  | .fine => 1
  | .coarse => c.coarseRatio

/-- `KBD_QUEUE_CAP` (R9). -/
abbrev kbdQueueCap : Nat := 16

/-- `TXBUF_CAP` (R9). -/
abbrev txbufCap : Nat := 8

/-- `ARB_R0_CAP` (R9). -/
abbrev arbR0Cap : Nat := 8

/-- `FILLER` (R9). -/
abbrev filler : Byte := 0xFF#8

/-- `MOUSE_BUTTONS`, the width of the button masks (R12, D37). -/
abbrev mouseButtonBits : Nat := 2

/-- The spec's test timing table TT1 (95_test_vectors.md §1). -/
def Timing.tt1 : Timing where
  tAttnMin := 35
  tReset := 175
  tSyncMin := 50
  tSyncMax := 90
  tBitLowMin := 20
  tBitLowMax := 80
  tBitSplit := 50
  tBitHighMax := 80
  tBitShort := 35
  tBitLong := 65
  tSrqAssert := 19
  tSrqCeil := 25
  tTlt := 12
  tListenStart := 20
  tListenResync := 100

/-- The spec's test configuration TC1 under TT1 (95_test_vectors.md §1). TT1 stands for the half-speed table
too: with `SPEED = FULL` no rule reads that one. -/
def Config.tc1 : Config where
  kbd := ⟨true, 2, 0x02, 0x6⟩
  mouse := ⟨true, 3, 0x01, 0x6⟩
  arb := ⟨true, 4, 0x01, 0x6⟩
  speed := .full
  timingFull := Timing.tt1
  timingHalf := Timing.tt1
  coarseRatio := 16
  pollGap := 1
  fineTickSeconds := (1, 1000000)
  acceptKbd := (0x02, 0x03)
  handlerSelftest := 0xFF
  handlerCollisionAck := 0xFE
  mouseClampMin := -64
  mouseClampMax := 63
  mouseAccMin := -16384
  mouseAccMax := 16383
  kbdR2Clear := 0x0000

end Sys2Proof
end

