-- ==== Sys2Proof/Syntax.lean ====
section
/-!
DEFINITION. The commands of the bus, one constructor per row of spec/opcode_table.json (R55, R56). Every row
carries the address field `A = cmd[7:4]`; RSV4 also carries its ignored field `R = cmd[1:0]`.
-/

namespace Sys2Proof

/-- A command byte, read as R55 and R56 say. -/
inductive Instr where
  /-- TALK reg0, R88. -/
  | talkR0 (a : BusAddr)
  /-- TALK reg1, R89. -/
  | talkR1 (a : BusAddr)
  /-- TALK reg2, R90. -/
  | talkR2 (a : BusAddr)
  /-- TALK reg3, the identity register, R91. -/
  | talkR3 (a : BusAddr)
  /-- LISTEN reg0, R93. -/
  | listenR0 (a : BusAddr)
  /-- LISTEN reg1, R94. -/
  | listenR1 (a : BusAddr)
  /-- LISTEN reg2, R95. -/
  | listenR2 (a : BusAddr)
  /-- LISTEN reg3, the identity register, R96. -/
  | listenR3 (a : BusAddr)
  /-- FLUSH, R97. -/
  | flush (a : BusAddr)
  /-- Reserved low nibble 0000, R98. -/
  | rsv0 (a : BusAddr)
  /-- Reserved low nibble 0010, R98. -/
  | rsv2 (a : BusAddr)
  /-- Reserved low nibble 0011, R98. -/
  | rsv3 (a : BusAddr)
  /-- Reserved low nibble 01RR, R98. -/
  | rsv4 (a : BusAddr) (r : RegNum)
deriving DecidableEq, Repr

/-- The address operand `A` of a command (R55). -/
def Instr.addr : Instr → BusAddr
  | .talkR0 a => a
  | .talkR1 a => a
  | .talkR2 a => a
  | .talkR3 a => a
  | .listenR0 a => a
  | .listenR1 a => a
  | .listenR2 a => a
  | .listenR3 a => a
  | .flush a => a
  | .rsv0 a => a
  | .rsv2 a => a
  | .rsv3 a => a
  | .rsv4 a _ => a

end Sys2Proof
end

