-- ==== Sys2Proof/WellFormed.lean ====
section
/-!
DEFINITION. Well-formedness. An instruction has nothing left to check: its fields have the widths of the command
byte's fields and R57 admits every byte. A configuration is well formed by the nine conditions W1 to W9 of R30.
-/

namespace Sys2Proof

/-- R57: "The command byte has no illegal encoding", and the operand types hold exactly the field values. -/
def Instr.wf : Instr → Bool
  | .talkR0 _ => true
  | .talkR1 _ => true
  | .talkR2 _ => true
  | .talkR3 _ => true
  | .listenR0 _ => true
  | .listenR1 _ => true
  | .listenR2 _ => true
  | .listenR3 _ => true
  | .flush _ => true
  | .rsv0 _ => true
  | .rsv2 _ => true
  | .rsv3 _ => true
  | .rsv4 _ _ => true

/-- W1: every `TIMING` field is an integer from 1 to 255. -/
def Config.w1 (c : Config) : Bool :=
  c.timing.fields.all fun f => decide (1 ≤ f.2) && decide (f.2 ≤ 255)

/-- W2: `T_ATTN_MIN < T_RESET`. -/
def Config.w2 (c : Config) : Bool := decide (c.timing.tAttnMin < c.timing.tReset)

/-- W3: `T_SYNC_MIN < T_SYNC_MAX`. -/
def Config.w3 (c : Config) : Bool := decide (c.timing.tSyncMin < c.timing.tSyncMax)

/-- W4: `T_BIT_LOW_MIN < T_BIT_SPLIT < T_BIT_LOW_MAX`. -/
def Config.w4 (c : Config) : Bool :=
  decide (c.timing.tBitLowMin < c.timing.tBitSplit) && decide (c.timing.tBitSplit < c.timing.tBitLowMax)

/-- W5: `T_BIT_SHORT < T_BIT_LONG`. -/
def Config.w5 (c : Config) : Bool := decide (c.timing.tBitShort < c.timing.tBitLong)

/-- W6: `T_SRQ_ASSERT < T_SRQ_CEIL`. -/
def Config.w6 (c : Config) : Bool := decide (c.timing.tSrqAssert < c.timing.tSrqCeil)

/-- W7, no counter wrap: `T − 1 + ceil(POLL_GAP / r_ticks) ≤ 255` for every field. -/
def Config.w7 (c : Config) : Bool :=
  c.timing.fields.all fun f =>
    decide (f.2 - 1 + (c.pollGap + c.rTicks f.1 - 1) / c.rTicks f.1 ≤ 255)

/-- W8: `DEFAULT_ADDR[k] ∈ 1..15` for every present k. -/
def Config.w8 (c : Config) : Bool :=
  DevClass.all.all fun k => !c.present k || decide ((c.classCfg k).defaultAddr ≠ 0#4)

/-- W9: `COARSE_RATIO ≥ 2` and `POLL_GAP ≥ 1`. -/
def Config.w9 (c : Config) : Bool := decide (2 ≤ c.coarseRatio) && decide (1 ≤ c.pollGap)

/-- R30: a configuration is well formed only if W1 to W9 hold; the machine refuses any other (Step.lean). -/
def Config.wf (c : Config) : Bool :=
  c.w1 && c.w2 && c.w3 && c.w4 && c.w5 && c.w6 && c.w7 && c.w8 && c.w9

end Sys2Proof
end

