-- ==== Sys2Proof/Decode.lean ====
section
/-!
DEFINITION. The decoder of the command byte (R55 to R58), in DISPATCH's own order (R85), and after it the encoder
written from the same opcode map.
-/

namespace Sys2Proof

/-- Why a list of bytes is no command. A whole byte always decodes (R57), so only its absence is refused. -/
inductive DecodeError where
  /-- No byte is there to decode. -/
  | noCommandByte
deriving DecidableEq, Repr

/-- The field `A = cmd[7:4]` (R55). -/
def fieldA (b : Byte) : BusAddr := b.extractLsb' 4 4

/-- The field `C = cmd[3:2]` (R55). -/
def fieldC (b : Byte) : BitVec 2 := b.extractLsb' 2 2

/-- The field `R = cmd[1:0]` (R55). -/
def fieldR (b : Byte) : RegNum := b.extractLsb' 0 2

/-- The low nibble `cmd[3:0]` (R55). -/
def lowNibble (b : Byte) : BitVec 4 := b.extractLsb' 0 4

/-- The Talk row of register `r` (R88 to R91). -/
def talkOf (a : BusAddr) (r : RegNum) : Instr :=
  if r = 0b00#2 then .talkR0 a
  else if r = 0b01#2 then .talkR1 a
  else if r = 0b10#2 then .talkR2 a
  else .talkR3 a

/-- The Listen row of register `r` (R93 to R96). -/
def listenOf (a : BusAddr) (r : RegNum) : Instr :=
  if r = 0b00#2 then .listenR0 a
  else if r = 0b01#2 then .listenR1 a
  else if r = 0b10#2 then .listenR2 a
  else .listenR3 a

/-- The reserved row of a low nibble that is neither Flush, Talk nor Listen (R98). -/
def reservedOf (a : BusAddr) (c : BitVec 2) (r : RegNum) : Instr :=
  if c = 0b01#2 then .rsv4 a r
  else if r = 0b10#2 then .rsv2 a
  else if r = 0b11#2 then .rsv3 a
  else .rsv0 a

/-- The instruction a command byte stands for: Flush is tested on the whole low nibble before `C` (R55, R85). -/
def decodeByte (b : Byte) : Instr :=
  if lowNibble b = 0b0001#4 then .flush (fieldA b)
  else if fieldC b = 0b11#2 then talkOf (fieldA b) (fieldR b)
  else if fieldC b = 0b10#2 then listenOf (fieldA b) (fieldR b)
  else reservedOf (fieldA b) (fieldC b) (fieldR b)

/-- Decoding of a byte sequence: "A command is always one byte" (R58); the bytes after it are left over. -/
def decode : List Byte → Except DecodeError (Instr × List Byte)
  | [] => .error .noCommandByte
  | b :: rest => .ok (decodeByte b, rest)

/-- The instruction the decoder reads from a table word of `nbits` bits, bit 0 the least significant bit of the
command byte and the bits past `nbits` zero. -/
def decodeTableWord (nbits w : Nat) : Option Instr :=
  match decode [BitVec.ofNat 8 (w % 2 ^ nbits)] with
  | .ok (i, _) => some i
  | .error _ => none

/-- The command byte of an instruction, from R56's map: the address field over the low nibble. -/
def encodeByte : Instr → Byte
  | .talkR0 a => a ++ 0b1100#4
  | .talkR1 a => a ++ 0b1101#4
  | .talkR2 a => a ++ 0b1110#4
  | .talkR3 a => a ++ 0b1111#4
  | .listenR0 a => a ++ 0b1000#4
  | .listenR1 a => a ++ 0b1001#4
  | .listenR2 a => a ++ 0b1010#4
  | .listenR3 a => a ++ 0b1011#4
  | .flush a => a ++ 0b0001#4
  | .rsv0 a => a ++ 0b0000#4
  | .rsv2 a => a ++ 0b0010#4
  | .rsv3 a => a ++ 0b0011#4
  | .rsv4 a r => a ++ (0b01#2 ++ r)

/-- The words of an instruction: one command byte (R58). -/
def encode (i : Instr) : List Byte := [encodeByte i]

end Sys2Proof
end

