-- ==== Sys2Proof/Machine/State.lean ====
section
/-!
DEFINITION. Everything the spec gives the machine (10_state.md), as plain data: the engine register `state` and the
transaction registers, the line driver and the tick counter, the identities and the device register file, the
configuration record, and at the block's ports the inputs still to come (the line's other drivers, the ingest
operations, the engine's poll spacing) and the outputs so far.
-/

namespace Sys2Proof.Machine

/-- Reasons a step stops with a fault. -/
inductive Fault where
  /-- Raised by `step` in the states TALK and LISTEN when `target` has no bit set. No rule of the spec enters
  those states unaddressed (R85), so no run reaches it. Safe: the machine stops where the spec says nothing. -/
  | phaseWithoutTarget
deriving DecidableEq, Repr

/-- Reasons a step is refused. -/
inductive Refusal where
  /-- An instruction that has no meaning yet, by its mnemonic. Raised by no arm of this model. Safe. -/
  | notModelled (mnemonic : String)
  /-- Raised by `step` on a configuration that breaks one of W1 to W9: "A model refuses a configuration that
  breaks any of them; it gives such a configuration no meaning" (R30). Safe. -/
  | illFormedConfiguration
deriving DecidableEq, Repr

/-- The engine's control register `state` (R15). -/
inductive EngineState where
  | idle
  | classify
  | sync
  | command
  | srq
  | dispatch
  | talk
  | listen
deriving DecidableEq, Repr

/-- A mask over (KBD, MOUSE, ARB), for `target` and `NeedsService` (R16, R82, R101). -/
structure ClassMask where
  kbd : Bool
  mouse : Bool
  arb : Bool
deriving DecidableEq, Repr

/-- The error classes of R141. -/
inductive ErrClass where
  | none
  | timing
  | protocol
  | collision
deriving DecidableEq, Repr

/-- The error record of R142, by its names; `Err.cls` and `Err.code` (Ops.lean) give its class and number. -/
inductive Err where
  | none
  | syncWindow
  | rbLowLong
  | rbLowShort
  | rbHighLong
  | srqReleased
  | srqCeil
  | listenStart
  | listenResync
  | listenShort
  | talkTransport
  | tlt
  | wbPre
  | wbHigh
deriving DecidableEq, Repr

/-- The values of `outcome` (R18); ERROR comes with the error record. -/
inductive TxOutcome where
  | none
  | spurious
  | reset
  | error (e : Err)
  | notAddressed
  | flushed
  | reserved
  | talkNoData
  | talkOk
  | listenOk
deriving DecidableEq, Repr

/-- The transaction registers and the drain record (R16). -/
structure Txn where
  cmd : Byte
  target : ClassMask
  reg : RegNum
  err : Err
  buf : Vector Byte 8
  len : Nat
  drainKbd : Nat
  drainButtons : BitVec 2
deriving DecidableEq, Repr

/-- The tick counter's registers (R20); `count` is their function of time (`State.count`, Ops.lean). -/
structure Timer where
  res : Res
  t0 : Nat
  running : Bool
deriving DecidableEq, Repr

/-- One class's identity registers (R21). -/
structure Identity where
  addr : BusAddr
  handler : Byte
  collision : Bool
deriving DecidableEq, Repr

/-- The identities `dev[k]` of the three classes (R21). -/
structure Identities where
  kbd : Identity
  mouse : Identity
  arb : Identity
deriving DecidableEq, Repr

/-- The keyboard class (R22). -/
structure Keyboard where
  kq : Vector Byte 16
  head : BitVec 4
  size : Nat
  r2hi : Byte
  r2lo : Byte
deriving DecidableEq, Repr

/-- The mouse class (R23). -/
structure Mouse where
  accX : Int
  accY : Int
  curButtons : BitVec 2
  repButtons : BitVec 2
  repDx : Int
  repDy : Int
deriving DecidableEq, Repr

/-- The arbitrary class (R24). -/
structure Arbitrary where
  r0buf : Vector Byte 8
  r0len : Nat
  r0ready : Bool
  r2val : Word16
  r2set : Bool
deriving DecidableEq, Repr

/-- The volatile registers of the three classes: the part of the device state INGEST may reach (R128). -/
structure RegFile where
  kbd : Keyboard
  mouse : Mouse
  arb : Arbitrary
deriving DecidableEq, Repr

/-- The operations INGEST may perform at an ingest point (R128). `arbLoadR0 d` has `n = d.length`. -/
inductive IngestOp where
  | nop
  | kbdPushSingle (x : Byte)
  | kbdPushPair (a b : Byte)
  | kbdSetR2 (v : Word16)
  | mouseMove (dx dy : BitVec 16)
  | mouseButtons (b : Nat)
  | arbLoadR0 (d : List Byte)
  | arbR0Status
  | arbWriteR2 (v : Word16)
  | arbReadR2
deriving DecidableEq, Repr

/-- The results on the INGEST port (R128). -/
inductive IngestResult where
  | ok
  | dropped
  | refused
  | status (ready : Bool)
  | r2 (isSet : Bool) (v : Word16)
deriving DecidableEq, Repr

/-- The machine. The last group is the model's own view of the ports and of time: see notes/assumptions/2 to 6. -/
structure State where
  /-- The build-time configuration; no rule writes it (R28). -/
  cfg : Config
  /-- `state` (R15). -/
  state : EngineState
  /-- The transaction registers (R16). -/
  tx : Txn
  /-- `outcome`, the OUTCOME port (R18). -/
  outcome : TxOutcome
  /-- `drive`, the LINE_DRIVE port (R19). -/
  drive : Bool
  /-- The tick counter (R20). -/
  timer : Timer
  /-- `dev[k]` (R21). -/
  ids : Identities
  /-- The device register file (R22, R23, R24). -/
  regs : RegFile
  /-- Whether the first transaction has begun: from then on RESET_ENTRY is ignored (R158). -/
  begun : Bool
  /-- The RESET_ENTRY port (R13). -/
  resetEntry : Bool
  /-- The fine-tick time (R10, the TICK port). -/
  now : Nat
  /-- `env_drive` at the ticks `now`, `now + 1`, …; released at every tick after the list's end (R39). -/
  env : List Bool
  /-- The fine ticks chosen to pass before the engine events still to come (R68); see `State.eventGap` and
  `State.pollGapFrom`. -/
  gaps : List Nat
  /-- The fine ticks within which the next engine event falls, at the latest (R11, R68). -/
  slack : Nat
  /-- `slack` counts from a poll, and only the next poll or drive change renews it (R11). -/
  fromPoll : Bool
  /-- The poll of this tick has taken place: there is no second one at it (R68). -/
  polledNow : Bool
  /-- The ingest point of this tick's poll has taken place: a poll has at most one (R40). -/
  ingestedNow : Bool
  /-- The operations INGEST performs at the ingest points still to come, NOP after the list's end (R40, R130). -/
  ingestIn : List IngestOp
  /-- The results given on the INGEST port so far, newest first, one for each ingest point (R128, R130). -/
  ingestOut : List IngestResult
  /-- The changes of LINE_DRIVE so far, newest first: (fine tick, new level) (R13, R19). -/
  lineOut : List (Nat × Bool)
deriving DecidableEq, Repr

/-- The state right after power-on (R31, R158) of the spec's test configuration TC1 under TT1. -/
def State.reset : State where
  cfg := Config.tc1
  state := .idle
  tx := ⟨0x00, ⟨false, false, false⟩, 0, .none, #v[0, 0, 0, 0, 0, 0, 0, 0], 0, 0, 0⟩
  outcome := .none
  drive := false
  timer := ⟨.fine, 0, false⟩
  ids := ⟨⟨2, 0x02, false⟩, ⟨3, 0x01, false⟩, ⟨4, 0x01, false⟩⟩
  regs :=
    { kbd := ⟨#v[0, 0, 0, 0, 0, 0, 0, 0, 0, 0, 0, 0, 0, 0, 0, 0], 0, 0, 0x00, 0x00⟩
      mouse := ⟨0, 0, 0, 0, 0, 0⟩
      arb := ⟨#v[0, 0, 0, 0, 0, 0, 0, 0], 0, false, 0x0000, false⟩ }
  begun := false
  resetEntry := false
  now := 0
  env := []
  gaps := []
  slack := 1
  fromPoll := false
  polledNow := false
  ingestedNow := false
  ingestIn := []
  ingestOut := []
  lineOut := []

end Sys2Proof.Machine
end

