-- ==== Sys2Proof/Machine/Ops.lean ====
section
/-!
DEFINITION. The named operations over the machine's own registers: time and the engine's events (R10, R11, R68), the
line and its driver (R63, R64), the tick counter (R65 to R67), the transaction registers and their start (R17), the
end of a transaction, and the abort `raise`, this block's taking of an exception (R143).
-/

namespace Sys2Proof.Machine

/-! ## Time and engine events -/

/-- `g` fine ticks pass. -/
def State.advance (g : Nat) (s : State) : State :=
  { s with
    now := s.now + g
    env := s.env.drop g
    slack := s.slack - g
    polledNow := s.polledNow && g == 0
    ingestedNow := s.ingestedNow && g == 0 }

/-- The fine ticks before a drive change or a `TimerStart`: the next entry of `gaps`, up to `slack`; zero time, the
spec's reference spacing, where there is none (R68). -/
def State.eventGap (s : State) : Nat := min (s.gaps.headD 0) s.slack

/-- The fine ticks before the engine reads the line: the next entry of `gaps`, at least one after a poll at this very
tick (R68), up to `slack`, and at least `ref`; `ref`, the spec's reference spacing of one poll per fine tick, where there
is no entry: 1 from poll to poll inside a wait, 0 before the first read of a wait or step, which is this tick's poll. -/
def State.pollGapFrom (ref : Nat) (s : State) : Nat :=
  match s.gaps with
  | [] => ref
  | g :: _ => max ref (min s.slack (max (if s.polledNow then 1 else 0) g))

/-- `g` fine ticks pass, and the choice they came from is used up. -/
def State.passTime (g : Nat) (s : State) : State := { s.advance g with gaps := s.gaps.tail }

/-- Time passes to a drive change or a `TimerStart` (R68). -/
def State.toEvent (s : State) : State := s.passTime s.eventGap

/-- Time passes to the tick of a poll (R68). -/
def State.toPoll (ref : Nat) (s : State) : State := s.passTime (s.pollGapFrom ref)

/-- The next event falls at fine tick `t` at the latest. -/
def State.dueBy (t : Nat) (s : State) : State := { s with slack := min s.slack (t - s.now) }

/-- The poll of this tick takes place: the next poll or drive change falls within `POLL_GAP` of it (R11). There is one
poll at a tick, and the engine's further steps at that tick share it (R68; DEDUCED, notes/assumptions/10). -/
def State.markPoll (s : State) : State :=
  { s with slack := s.cfg.pollGap, fromPoll := true, polledNow := true }

/-- A drive change takes place: R11's bound has ended, and each event from here to the next poll is within `POLL_GAP`
of the one before it (R68). -/
def State.markDrive (s : State) : State := { s with slack := s.cfg.pollGap, fromPoll := false }

/-! ## The line -/

/-- `env_drive(now)` (R39). -/
def State.envNow (s : State) : Bool := s.env.headD false

/-- `Line()`: `drive OR env_drive(now)`, the LINE_SENSE port (R63). -/
def State.line (s : State) : Bool := s.drive || s.envNow

/-- `drive <- v`, and the change, where it is one, on the LINE_DRIVE port (R64). -/
def State.setDrive (v : Bool) (s : State) : State :=
  { s with drive := v, lineOut := if s.drive = v then s.lineOut else (s.now, v) :: s.lineOut }

/-- `Drive(v)` as an engine event of its own (R64, R68). -/
def State.driveLine (v : Bool) (s : State) : State := (s.toEvent.setDrive v).markDrive

/-- One read of the line alone, outside a wait: no ingest point (R40, R73, R84). -/
def State.pollLine (s : State) : State × Bool :=
  let s1 := (s.toPoll 0).markPoll
  (s1, s1.line)

/-! ## The tick counter -/

/-- `count`, 8 bits: `floor((now − t0) / r_ticks(res)) mod 256` while running, 0 otherwise (R20, R65, R67). -/
def State.count (s : State) : BitVec 8 :=
  if s.timer.running then BitVec.ofNat 8 ((s.now - s.timer.t0) / s.cfg.rTicks s.timer.res) else 0#8

/-- `Ticks()` (R66), as the number every wait compares. -/
def State.ticks (s : State) : Nat := s.count.toNat

/-- `TimerStart` at this tick (R65). It is an event, so the next one is within `POLL_GAP` of it (R68), but it does not
prolong the time a poll left (R11). -/
def State.startTimerNow (r : Res) (s : State) : State :=
  { s with
    timer := { res := r, t0 := s.now, running := true }
    slack := if s.fromPoll then s.slack else s.cfg.pollGap }

/-- `TimerStart(res)` (R65), an engine event (R68) that restarts the counter and its prescaler. -/
def State.timerStart (r : Res) (s : State) : State := s.toEvent.startTimerNow r

/-- `TimerStop()` (R67): the count, and the counter halted and reset. No rule calls it. -/
def State.timerStop (s : State) : State × BitVec 8 :=
  ({ s with timer := { s.timer with running := false } }, s.count)

/-! ## The transaction registers -/

/-- `state <- S` (R15). -/
def State.goto (e : EngineState) (s : State) : State := { s with state := e }

/-- The transaction registers at the start of a transaction, R17. -/
def Txn.fresh : Txn where
  cmd := 0x00#8
  target := ⟨false, false, false⟩
  reg := 0#2
  err := .none
  buf := #v[0, 0, 0, 0, 0, 0, 0, 0]
  len := 0
  drainKbd := 0
  drainButtons := 0#2

/-- The start of a transaction (R17, R77): this is also how the engine goes on after an abort, since there is no
trap return (R147). -/
def State.beginTransaction (s : State) : State := { s with tx := Txn.fresh, begun := true }

/-- `cmd <- v` (R81). -/
def State.setCmd (v : Byte) (s : State) : State := { s with tx := { s.tx with cmd := v } }

/-- `target <- m` (R82). -/
def State.setTarget (m : ClassMask) (s : State) : State := { s with tx := { s.tx with target := m } }

/-- `reg <- r` (R85). -/
def State.setReg (r : RegNum) (s : State) : State := { s with tx := { s.tx with reg := r } }

/-- `err <- e` (R143). -/
def State.setErr (e : Err) (s : State) : State := { s with tx := { s.tx with err := e } }

/-- `len <- n` (R16). -/
def State.setLen (n : Nat) (s : State) : State := { s with tx := { s.tx with len := n } }

/-- `buf[i] <- b`; a number past the buffer's 8 bytes names no entry (R9, R16). -/
def State.setBuf (i : Nat) (b : Byte) (s : State) : State :=
  { s with tx := { s.tx with buf := s.tx.buf.setIfInBounds i b } }

/-- `buf[i]` (R16). -/
def State.bufAt (i : Nat) (s : State) : Byte := s.tx.buf.toList.getD i 0x00#8

/-- The first `len` bytes of the buffer, the bytes a Talk sends (R54, R87). -/
def State.payload (s : State) : List Byte := s.tx.buf.toList.take s.tx.len

/-! ## The end of a transaction and the abort -/

/-- `end` with outcome `o` (R77): write `outcome`, `Drive(0)`, `state <- IDLE`. -/
def State.endTx (o : TxOutcome) (s : State) : State :=
  { s.setDrive false with outcome := o, state := .idle }

/-- `raise C(code)`, the abort (R143): the error record, outcome ERROR, `Drive(0)` and IDLE, in one step with no
poll and no ingest point. Nothing else is saved and nothing already done is undone (R86). -/
def State.raiseErr (e : Err) (s : State) : State := (s.setErr e).endTx (.error e)

/-- The class of an error (R142). -/
def Err.cls : Err → ErrClass
  | .none => .none
  | .syncWindow => .timing
  | .rbLowLong => .protocol
  | .rbLowShort => .protocol
  | .rbHighLong => .protocol
  | .srqReleased => .protocol
  | .srqCeil => .protocol
  | .listenStart => .protocol
  | .listenResync => .protocol
  | .listenShort => .protocol
  | .talkTransport => .protocol
  | .tlt => .collision
  | .wbPre => .collision
  | .wbHigh => .collision

/-- The number of an error class (R142). -/
def ErrClass.num : ErrClass → Nat
  | .none => 0
  | .timing => 1
  | .protocol => 2
  | .collision => 3

/-- The info code of an error (R142). -/
def Err.code : Err → Nat
  | .none => 0
  | .syncWindow => 1
  | .rbLowLong => 1
  | .rbLowShort => 2
  | .rbHighLong => 3
  | .srqReleased => 4
  | .srqCeil => 5
  | .listenStart => 6
  | .listenResync => 7
  | .listenShort => 8
  | .talkTransport => 9
  | .tlt => 1
  | .wbPre => 2
  | .wbHigh => 3

/-- The class and the number of an error, the pair the OUTCOME port shows (R18, R142). -/
def Err.record (e : Err) : Nat × Nat := (e.cls.num, e.code)

end Sys2Proof.Machine
end

