-- ==== Sys2Proof/Machine/Operands.lean ====
section
/-!
DEFINITION. Operand forms: how a command's address field selects a class (R82, R120), the identities' and masks'
access by class, and the layouts of multi-byte register data (R36, R59, R60, R61).
-/

namespace Sys2Proof.Machine

/-! ## Access by class -/

/-- `dev[k]` (R21). -/
def Identities.get (d : Identities) : DevClass → Identity
  | .kbd => d.kbd
  | .mouse => d.mouse
  | .arb => d.arb

/-- `dev[k] <- x`. -/
def Identities.set (k : DevClass) (x : Identity) (d : Identities) : Identities :=
  match k with
  | .kbd => { d with kbd := x }
  | .mouse => { d with mouse := x }
  | .arb => { d with arb := x }

/-- The mask's bit of class `k`. -/
def ClassMask.get (m : ClassMask) : DevClass → Bool
  | .kbd => m.kbd
  | .mouse => m.mouse
  | .arb => m.arb

/-- The mask 0. -/
def ClassMask.zero : ClassMask := ⟨false, false, false⟩

/-- `onehot(k)` (R82). -/
def ClassMask.onehot : DevClass → ClassMask
  | .kbd => ⟨true, false, false⟩
  | .mouse => ⟨false, true, false⟩
  | .arb => ⟨false, false, true⟩

/-- `m AND NOT t` (R83). -/
def ClassMask.andNot (m t : ClassMask) : ClassMask :=
  ⟨m.kbd && !t.kbd, m.mouse && !t.mouse, m.arb && !t.arb⟩

/-- "the class whose bit is set in target" (R85), the first in the fixed order. -/
def ClassMask.first (m : ClassMask) : Option DevClass := DevClass.all.find? m.get

/-! ## The address match -/

/-- The class that answers at address `a`: the first present one in the order KBD, MOUSE, ARB whose address is
`a` (R82, R120). -/
def State.matchClass (a : BusAddr) (s : State) : Option DevClass :=
  DevClass.all.find? fun k => s.cfg.present k && (s.ids.get k).addr == a

/-- `Match(a)` as the one-hot mask of R82, or 0. -/
def State.matchMask (a : BusAddr) (s : State) : ClassMask :=
  match s.matchClass a with
  | none => ClassMask.zero
  | some k => ClassMask.onehot k

/-! ## Layouts of register data -/

/-- `v[15:8]` (R36). -/
def hiByte (v : Word16) : Byte := v.extractLsb' 8 8

/-- `v[7:0]` (R36). -/
def loByte (v : Word16) : Byte := v.extractLsb' 0 8

/-- `(b0 << 8) | b1`: the first byte on the line is the upper one (R36, R59). -/
def wordOf (b0 b1 : Byte) : Word16 := b0 ++ b1

/-- The proposed address of a Listen to register 3: byte 0's bits 3:0, its upper nibble ignored (R60, D44). -/
def proposedAddr (b0 : Byte) : BusAddr := b0.extractLsb' 0 4

/-- Byte 0 of Talk register 3: `R3_HI[k] ++ dev[k].addr` (R60, R114). -/
def identityByte (r3Hi : BitVec 4) (a : BusAddr) : Byte := r3Hi ++ a

/-- One byte of the mouse report: the inverted button bit over the 7-bit two's complement delta (R61). -/
def mouseByte (button : Bool) (delta : Int) : Byte := BitVec.ofBool (!button) ++ BitVec.ofInt 7 delta

/-- `clamp(v, lo, hi) = min(max(v, lo), hi)` (00_scope.md §4). -/
def clampInt (v lo hi : Int) : Int := min (max v lo) hi

/-- The first `n` entries of `src` over those of `dst`: `for i in 0 .. n-1: dst[i] <- src[i]` (R110). -/
def copyFirst (n : Nat) (src dst : Vector Byte 8) : Vector Byte 8 :=
  #v[if 0 < n then src[0] else dst[0], if 1 < n then src[1] else dst[1],
     if 2 < n then src[2] else dst[2], if 3 < n then src[3] else dst[3],
     if 4 < n then src[4] else dst[4], if 5 < n then src[5] else dst[5],
     if 6 < n then src[6] else dst[6], if 7 < n then src[7] else dst[7]]

/-- `d[i] if i < n else 0` for the 8 entries of register 0, `n` the length of `d` (R136). -/
def padded8 (d : List Byte) : Vector Byte 8 :=
  #v[d.getD 0 0, d.getD 1 0, d.getD 2 0, d.getD 3 0, d.getD 4 0, d.getD 5 0, d.getD 6 0, d.getD 7 0]

end Sys2Proof.Machine
end

