-- ==== Sys2Proof/Machine/Keyboard.lean ====
section
/-!
DEFINITION. The keyboard event buffer (44_keyboard_buffer.md): a circular queue of 16 bytes.
-/

namespace Sys2Proof.Machine

/-- The index of queue position `i`: `(kq_head + i) mod 16` (R22). -/
def Keyboard.slot (k : Keyboard) (i : Nat) : Fin 16 := Fin.ofNat 16 (k.head.toNat + i)

/-- `q[i] = kq[(kq_head + i) mod 16]` (R22). -/
def Keyboard.entry (k : Keyboard) (i : Nat) : Byte := k.kq[k.slot i]

/-- The queue's entries, the oldest first: the observable part of the buffer (R22, R161). -/
def Keyboard.entries (k : Keyboard) : List Byte := (List.range k.size).map k.entry

/-- `Append(x)` (R122); the caller ensures that there is room. -/
def Keyboard.append (x : Byte) (k : Keyboard) : Keyboard :=
  { k with kq := k.kq.set (k.slot k.size) x, size := k.size + 1 }

/-- `kb_push_single(x)` (R123). -/
def Keyboard.pushSingle (x : Byte) (k : Keyboard) : Keyboard × IngestResult :=
  if k.size = kbdQueueCap then (k, .dropped) else (k.append x, .ok)

/-- `kb_push_pair(a, b)` (R124): all of it or nothing, from an even position. -/
def Keyboard.pushPair (a b : Byte) (k : Keyboard) : Keyboard × IngestResult :=
  let need := if k.size % 2 = 1 then 3 else 2
  if kbdQueueCap - k.size < need then (k, .refused)
  else
    let padded := if k.size % 2 = 1 then k.append filler else k
    ((padded.append a).append b, .ok)

/-- `kb_peek_pair()` (R125). -/
def Keyboard.peekPair (k : Keyboard) : Word16 :=
  if k.size = 0 then 0xFFFF#16
  else if k.size = 1 then wordOf (k.entry 0) filler
  else wordOf (k.entry 0) (k.entry 1)

/-- `kb_drain(n)` (R126): counts above 2 are 2, and more than is there changes nothing. -/
def Keyboard.drain (n : Nat) (k : Keyboard) : Keyboard :=
  let m := min n 2
  if k.size < m then k
  else { k with head := k.head + BitVec.ofNat 4 m, size := k.size - m }

/-- `kr2_hi ++ kr2_lo <- v` (R133). -/
def Keyboard.setR2 (v : Word16) (k : Keyboard) : Keyboard := { k with r2hi := hiByte v, r2lo := loByte v }

/-- The keyboard's part of flush and reset (R121, R157). -/
def Keyboard.cleared (c : Config) : Keyboard where
  kq := #v[0, 0, 0, 0, 0, 0, 0, 0, 0, 0, 0, 0, 0, 0, 0, 0]
  head := 0#4
  size := 0
  r2hi := hiByte c.kbdR2Clear
  r2lo := loByte c.kbdR2Clear

end Sys2Proof.Machine
end

