-- ==== Sys2Proof/Machine/Ingest.lean ====
section
/-!
DEFINITION. The ingest port (45_ingest_port.md): the operations as functions of the register file alone, so that by
their very type none touches an identity, the engine or the line (R128); and the ingest point (R40).
-/

namespace Sys2Proof.Machine

/-- `MOUSE_MOVE(dx, dy)`: saturating adds (R134). -/
def Mouse.move (c : Config) (dx dy : BitVec 16) (m : Mouse) : Mouse :=
  { m with
    accX := clampInt (m.accX + dx.toInt) c.mouseAccMin c.mouseAccMax
    accY := clampInt (m.accY + dy.toInt) c.mouseAccMin c.mouseAccMax }

/-- The class an ingest operation belongs to; NOP belongs to none (R129). -/
def IngestOp.cls : IngestOp → Option DevClass
  | .nop => none
  | .kbdPushSingle _ => some .kbd
  | .kbdPushPair _ _ => some .kbd
  | .kbdSetR2 _ => some .kbd
  | .mouseMove _ _ => some .mouse
  | .mouseButtons _ => some .mouse
  | .arbLoadR0 _ => some .arb
  | .arbR0Status => some .arb
  | .arbWriteR2 _ => some .arb
  | .arbReadR2 => some .arb

/-- `r2val <- v; r2set <- 1`, the one effect of a bus Listen and of `ARB_WRITE_R2` (R117, R138). -/
def Arbitrary.writeR2 (v : Word16) (a : Arbitrary) : Arbitrary := { a with r2val := v, r2set := true }

/-- `ARB_LOAD_R0(n, d)` (R136), with `n` the length of `d`. -/
def Arbitrary.loadR0 (d : List Byte) (a : Arbitrary) : Arbitrary × IngestResult :=
  if d.length < 1 ∨ arbR0Cap < d.length then (a, .refused)
  else if a.r0ready then (a, .refused)
  else ({ a with r0buf := padded8 d, r0len := d.length, r0ready := true }, .ok)

/-- The effect of an operation whose class is present (R130 to R139). -/
def RegFile.perform (c : Config) (r : RegFile) : IngestOp → RegFile × IngestResult
  | .nop => (r, .ok)
  | .kbdPushSingle x => ({ r with kbd := (r.kbd.pushSingle x).1 }, (r.kbd.pushSingle x).2)
  | .kbdPushPair a b => ({ r with kbd := (r.kbd.pushPair a b).1 }, (r.kbd.pushPair a b).2)
  | .kbdSetR2 v => ({ r with kbd := r.kbd.setR2 v }, .ok)
  | .mouseMove dx dy => ({ r with mouse := r.mouse.move c dx dy }, .ok)
  | .mouseButtons b =>
    if 2 ^ mouseButtonBits ≤ b then (r, .refused)
    else ({ r with mouse := { r.mouse with curButtons := BitVec.ofNat 2 b } }, .ok)
  | .arbLoadR0 d => ({ r with arb := (r.arb.loadR0 d).1 }, (r.arb.loadR0 d).2)
  | .arbR0Status => (r, .status r.arb.r0ready)
  | .arbWriteR2 v => ({ r with arb := r.arb.writeR2 v }, .ok)
  | .arbReadR2 => (r, .r2 r.arb.r2set r.arb.r2val)

/-- One ingest operation: refused with no change when its class is not in `PRESENT` (R129). -/
def RegFile.ingest (c : Config) (op : IngestOp) (r : RegFile) : RegFile × IngestResult :=
  match op.cls with
  | none => r.perform c op
  | some k => if c.present k then r.perform c op else (r, .refused)

/-- `IngestPoint()` (R40): INGEST performs the next of its operations and gives its result on the INGEST port (R128);
where it performs none, the point is the same as one with `NOP` (R130). -/
def State.ingestPoint (s : State) : State :=
  let r := s.regs.ingest s.cfg (s.ingestIn.headD .nop)
  { s with ingestIn := s.ingestIn.tail, regs := r.1, ingestOut := r.2 :: s.ingestOut, ingestedNow := true }

end Sys2Proof.Machine
end

