-- ==== Sys2Proof/Machine/Line.lean ====
section
/-!
DEFINITION. The polling waits (R69 to R72) and the duration-coded bit transport (R73 to R75). Every loop runs on a
fuel that the counter's limit bounds: a wait up to `T` ticks of `r` fine ticks ends within `T · r + 1` polls, since
consecutive polls are at least one fine tick apart (R68) and W7 keeps the counter from wrapping (R30).
-/

namespace Sys2Proof.Machine

/-- One poll of a wait: its ingest point, where the wait has one and this tick's poll has not had it, then the poll
itself (R40, R68). -/
def State.waitPoll (ing : Bool) (s : State) : State :=
  (if ing && !s.ingestedNow then s.ingestPoint else s).markPoll

/-- The last fine tick at which the running counter has not wrapped: the first poll of a wait falls by then, since
"under W7, the value returned is at most 255 and has not wrapped" (R69, R152, D30). -/
def State.wrapDue (s : State) : Nat := s.timer.t0 + (256 * s.cfg.rTicks s.timer.res - 1)

/-- The last fine tick at which a wait for `lvl`, entered with the line at that level already, may read it: the interval
that it measures ends here, and the count is at most `floor((d + POLL_GAP − 1) / r)` (R165). -/
def State.levelDue (s : State) : Nat :=
  let r := s.cfg.rTicks s.timer.res
  s.timer.t0 + (((s.now - s.timer.t0 + (s.cfg.pollGap - 1)) / r + 1) * r - 1)

/-- The last fine tick for the first poll of a wait for `lvl` (R69, R165). -/
def State.waitDue (lvl : Bool) (s : State) : Nat := if s.line = lvl then min s.wrapDue s.levelDue else s.wrapDue

/-- The last fine tick at which a hold for `H` ticks of the running timer ends: "at most `POLL_GAP − 1` fine ticks"
after `t0 + H·r_ticks` (R71). -/
def State.holdDue (H : Nat) (s : State) : Nat :=
  s.timer.t0 + H * s.cfg.rTicks s.timer.res + (s.cfg.pollGap - 1)

/-- The polls a wait up to `T` ticks of the running timer can make. -/
def State.pollBound (T : Nat) (s : State) : Nat := T * s.cfg.rTicks s.timer.res + 1

/-- The loop of `PollUntil` (R69), from a poll at the present tick. -/
def pollLoop (lvl : Bool) (T : Nat) (ing : Bool) : Nat → State → State × Nat
  | 0, s => (s, T)
  | n + 1, s =>
    let s1 := s.waitPoll ing
    if s1.line = lvl then (s1, s1.ticks)
    else if T ≤ s1.ticks then (s1, s1.ticks)
    else pollLoop lvl T ing n (s1.toPoll 1)

/-- `PollUntil(lvl, T, ing) -> e` on the running timer (R69). -/
def pollUntil (lvl : Bool) (T : Nat) (ing : Bool) (s : State) : State × Nat :=
  pollLoop lvl T ing (s.pollBound T) ((s.dueBy (s.waitDue lvl)).toPoll 0)

/-- `WaitAssert(T, res, 1)` (R70). -/
def waitAssert (T : Nat) (r : Res) (s : State) : State × Nat := pollUntil true T true (s.timerStart r)

/-- `WaitFree(T, res, 1)` (R70). -/
def waitFree (T : Nat) (r : Res) (s : State) : State × Nat := pollUntil false T true (s.timerStart r)

/-- The loop of `HoldUntil` (R71). -/
def holdLoop (H : Nat) (ing : Bool) : Nat → State → State
  | 0, s => s
  | n + 1, s =>
    let s1 := s.waitPoll ing
    if H ≤ s1.ticks then s1 else holdLoop H ing n (s1.toPoll 1)

/-- `HoldUntil(H, ing)` on the running timer (R71). -/
def holdUntil (H : Nat) (ing : Bool) (s : State) : State :=
  holdLoop H ing (s.pollBound H) ((s.dueBy (s.holdDue H)).toPoll 0)

/-- `ResyncAssert(T)`: no ingest point (R72). -/
def resyncAssert (T : Nat) (s : State) : State × Nat := pollUntil true T false (s.timerStart .fine)

/-- `ResyncFree(T)`: no ingest point (R72). -/
def resyncFree (T : Nat) (s : State) : State × Nat := pollUntil false T false (s.timerStart .fine)

/-! ## The encoder -/

/-- The low time of a sent bit (R49, R73). -/
def sentLow (t : Timing) (b : Bool) : Nat := if b then t.tBitShort else t.tBitLong

/-- The high time of a sent bit (R49, R73). -/
def sentHigh (t : Timing) (b : Bool) : Nat := if b then t.tBitLong else t.tBitShort

/-- The low phase of `WriteBit`: CORE's own drive for `lo` fine ticks (R73). -/
def writeLow (lo : Nat) (s : State) : State :=
  (holdUntil lo true ((s.timerStart .fine).driveLine true)).driveLine false

/-- `WriteBit(b) -> err` (R73). -/
def writeBit (b : Bool) (s : State) : State × Err :=
  let p := s.pollLine
  if p.2 then (p.1, .wbPre)
  else
    let w := waitAssert (sentHigh s.cfg.timing b) .fine (writeLow (sentLow s.cfg.timing b) p.1)
    if w.2 < sentHigh s.cfg.timing b then (w.1, .wbHigh) else (w.1, .none)

/-- Go on with `f` after a transmission that gave no error; "aborting immediately (no partial recovery)" otherwise
(R74, R87). -/
def onSent (r : State × Err) (f : State → State × Err) : State × Err :=
  if r.2 = .none then f r.1 else r

/-- The bits `n−1` down to 0 of `v` (R74). -/
def writeBits (v : Byte) : Nat → State → State × Err
  | 0, s => (s, .none)
  | n + 1, s => onSent (writeBit (v.getLsbD n) s) (writeBits v n)

/-- `WriteByte(v) -> err`, bit 7 first (R74). -/
def writeByte (v : Byte) (s : State) : State × Err := writeBits v 8 s

/-! ## The decoder -/

/-- `v[i] <- 1` where the bit read is a 1, `v` as it is otherwise (R75). -/
def setBitIf (b : Bool) (i : Nat) (v : Byte) : Byte := if b then v ||| (1#8 <<< i) else v

/-- The loop of `ReadByte` over the bits `n−1` down to 0, `v` the bits read so far (R75). -/
def readBits : Nat → Byte → State → State × Byte × Err
  | 0, v, s => (s, v, .none)
  | n + 1, v, s =>
    let lo := waitFree s.cfg.timing.tBitLowMax .fine s
    if s.cfg.timing.tBitLowMax ≤ lo.2 then (lo.1, v, .rbLowLong)
    else if lo.2 < s.cfg.timing.tBitLowMin then (lo.1, v, .rbLowShort)
    else
      let v1 := setBitIf (decide (lo.2 < s.cfg.timing.tBitSplit)) n v
      let hi := waitAssert s.cfg.timing.tBitHighMax .fine lo.1
      if s.cfg.timing.tBitHighMax ≤ hi.2 then (hi.1, v1, .rbHighLong)
      else readBits n v1 hi.1

/-- `ReadByte() -> (v, err)` (R75). -/
def readByte (s : State) : State × Byte × Err := readBits 8 0x00#8 s

end Sys2Proof.Machine
end

