-- ==== Sys2Proof/Machine/Flags.lean ====
section
/-!
DEFINITION. The single-bit conditions of R26 that rules set and other rules read: the service-request aggregate
(R25, R101), the service-request decision (R83) and the collision flags (R119).
-/

namespace Sys2Proof.Machine

/-- The mouse has something to report (R101, R108). -/
def Mouse.pending (m : Mouse) : Bool := m.repButtons != m.curButtons || m.accX != 0 || m.accY != 0

/-- Class `k` has pending data, whether present or not. -/
def RegFile.pending (r : RegFile) : DevClass → Bool
  | .kbd => decide (0 < r.kbd.size)
  | .mouse => r.mouse.pending
  | .arb => r.arb.r0ready

/-- `NeedsService()` (R101): computed on demand, over present classes only (R100). -/
def State.needsService (s : State) : ClassMask :=
  ⟨s.cfg.present .kbd && s.regs.pending .kbd,
   s.cfg.present .mouse && s.regs.pending .mouse,
   s.cfg.present .arb && s.regs.pending .arb⟩

/-- `srq <- NeedsService() AND NOT target` (R83). -/
def State.srqMask (s : State) : ClassMask := s.needsService.andNot s.tx.target

/-- `dev[k].collision <- v` (R119). -/
def State.setCollision (k : DevClass) (v : Bool) (s : State) : State :=
  { s with ids := s.ids.set k { s.ids.get k with collision := v } }

end Sys2Proof.Machine
end

