-- ==== Sys2Proof/Machine/Registers.lean ====
section
/-!
DEFINITION. The device register file as the engine calls it (43_device_registers.md): `Produce`, `Drain`, `ListenReg`,
`IdentityUpdate`, `Flush`, and the device reset (R157). Each is one indivisible step without a poll (R99).
-/

namespace Sys2Proof.Machine

/-! ## Talk -/

/-- `len <- 0`: a register with no data (R113). -/
def State.produceNone (s : State) : State := s.setLen 0

/-- `buf[0] <- b0; buf[1] <- b1; len <- 2`. -/
def State.producePair (b0 b1 : Byte) (s : State) : State := ((s.setBuf 0 b0).setBuf 1 b1).setLen 2

/-- Keyboard register 0 (R105). -/
def State.produceKbdR0 (s : State) : State :=
  if s.regs.kbd.size = 0 then s.produceNone
  else
    let p := s.regs.kbd.peekPair
    let s1 := s.producePair (hiByte p) (loByte p)
    { s1 with tx := { s1.tx with drainKbd := min s.regs.kbd.size 2 } }

/-- Keyboard register 2 (R107). -/
def State.produceKbdR2 (s : State) : State := s.producePair s.regs.kbd.r2hi s.regs.kbd.r2lo

/-- The reported deltas written by a mouse report (R108). -/
def Mouse.report (c : Config) (m : Mouse) : Mouse :=
  { m with
    repDx := clampInt m.accX c.mouseClampMin c.mouseClampMax
    repDy := clampInt m.accY c.mouseClampMin c.mouseClampMax }

/-- Mouse register 0 (R108). -/
def State.produceMouseR0 (s : State) : State :=
  if s.regs.mouse.pending then
    let m := s.regs.mouse.report s.cfg
    let s1 := s.producePair (mouseByte (m.curButtons.getLsbD 0) m.repDy)
      (mouseByte (m.curButtons.getLsbD 1) m.repDx)
    { s1 with
      regs := { s.regs with mouse := m }
      tx := { s1.tx with drainButtons := m.curButtons } }
  else s.produceNone

/-- Arbitrary register 0 (R110). -/
def State.produceArbR0 (s : State) : State :=
  if s.regs.arb.r0ready then
    { s with tx := { s.tx with
        buf := copyFirst s.regs.arb.r0len s.regs.arb.r0buf s.tx.buf
        len := s.regs.arb.r0len } }
  else s.produceNone

/-- Arbitrary register 2 (R112). -/
def State.produceArbR2 (s : State) : State :=
  if s.regs.arb.r2set then s.producePair (hiByte s.regs.arb.r2val) (loByte s.regs.arb.r2val)
  else s.produceNone

/-- Register 3 of every class (R114). -/
def State.produceR3 (k : DevClass) (s : State) : State :=
  s.producePair (identityByte (s.cfg.classCfg k).r3Hi (s.ids.get k).addr) (s.ids.get k).handler

/-- Register 0 of class `k` (R102). -/
def State.produceR0 (k : DevClass) (s : State) : State :=
  match k with
  | .kbd => s.produceKbdR0
  | .mouse => s.produceMouseR0
  | .arb => s.produceArbR0

/-- Register 2 of class `k` (R102). -/
def State.produceR2 (k : DevClass) (s : State) : State :=
  match k with
  | .kbd => s.produceKbdR2
  | .mouse => s.produceNone
  | .arb => s.produceArbR2

/-- `Produce(k, reg)`, R102's table. -/
def State.produce (k : DevClass) (r : RegNum) (s : State) : State :=
  if r = 0b00#2 then s.produceR0 k
  else if r = 0b01#2 then s.produceNone
  else if r = 0b10#2 then s.produceR2 k
  else s.produceR3 k

/-- Mouse register 0 is drained (R109): exactly what was sent is subtracted. -/
def Mouse.drain (c : Config) (sent : BitVec 2) (m : Mouse) : Mouse :=
  { m with
    accX := clampInt (m.accX - m.repDx) c.mouseAccMin c.mouseAccMax
    accY := clampInt (m.accY - m.repDy) c.mouseAccMin c.mouseAccMax
    repButtons := sent }

/-- Register 0 of class `k` is drained, from the drain record (R103, R106, R109, R111). -/
def RegFile.drainR0 (c : Config) (tx : Txn) (k : DevClass) (r : RegFile) : RegFile :=
  match k with
  | .kbd => { r with kbd := r.kbd.drain tx.drainKbd }
  | .mouse => { r with mouse := r.mouse.drain c tx.drainButtons }
  | .arb => { r with arb := { r.arb with r0ready := false } }

/-- `Drain(k, reg)`, R103's table: registers 1 to 3 have none. -/
def State.drainReg (k : DevClass) (r : RegNum) (s : State) : State :=
  if r = 0b00#2 then { s with regs := s.regs.drainR0 s.cfg s.tx k } else s

/-! ## Listen -/

/-- `ListenReg(k, reg, v)`, R115's table: only arbitrary register 2 takes the value (R116, R117). -/
def State.listenReg (k : DevClass) (r : RegNum) (v : Word16) (s : State) : State :=
  match k with
  | .kbd => s
  | .mouse => s
  | .arb =>
    if r = 0b10#2 then { s with regs := { s.regs with arb := s.regs.arb.writeR2 v } } else s

/-- The policy of `IdentityUpdate` on one class's registers, in the source's order of checks (R118). -/
def Identity.update (c : Config) (accept : List Byte) (b0 b1 : Byte) (d : Identity) : Identity :=
  if b1 = c.handlerSelftest then d
  else if b1 = c.handlerCollisionAck ∧ d.collision = true then { d with collision := false }
  else if proposedAddr b0 = 0#4 then d
  else if b1 ∈ accept then { d with addr := proposedAddr b0, handler := b1 }
  else { d with addr := proposedAddr b0 }

/-- `IdentityUpdate(k, b0, b1)` (R118). -/
def State.identityUpdate (k : DevClass) (b0 b1 : Byte) (s : State) : State :=
  { s with ids := s.ids.set k ((s.ids.get k).update s.cfg (s.cfg.acceptHandlers k) b0 b1) }

/-! ## Flush and device reset -/

/-- The mouse's part of flush and reset (R121, R157). -/
def Mouse.cleared : Mouse := ⟨0, 0, 0#2, 0#2, 0, 0⟩

/-- The arbitrary class's part of flush and reset (R121, R157). -/
def Arbitrary.cleared : Arbitrary := ⟨#v[0, 0, 0, 0, 0, 0, 0, 0], 0, false, 0x0000#16, false⟩

/-- The volatile registers of class `k` cleared (R121). -/
def RegFile.flush (c : Config) (k : DevClass) (r : RegFile) : RegFile :=
  match k with
  | .kbd => { r with kbd := Keyboard.cleared c }
  | .mouse => { r with mouse := Mouse.cleared }
  | .arb => { r with arb := Arbitrary.cleared }

/-- `Flush(k)` (R121): the identity and the collision flag stay. -/
def State.flushClass (k : DevClass) (s : State) : State := { s with regs := s.regs.flush s.cfg k }

/-- `dev[k]` at its build-time defaults with no collision recorded (R157). -/
def Identity.default (c : ClassConfig) : Identity := ⟨c.defaultAddr, c.defaultHandler, false⟩

/-- The device reset of one class: identity to its defaults, volatile registers cleared, if present (R157). -/
def State.resetClass (k : DevClass) (s : State) : State :=
  if s.cfg.present k then
    { s with
      ids := s.ids.set k (Identity.default (s.cfg.classCfg k))
      regs := s.regs.flush s.cfg k }
  else s

/-- `DeviceReset()` (R157). -/
def State.deviceReset (s : State) : State :=
  (((s.resetClass .kbd).resetClass .mouse).resetClass .arb).setDrive false

end Sys2Proof.Machine
end

