-- ==== Sys2Proof/Machine/Engine.lean ====
section
/-!
DEFINITION. The engine's states before DISPATCH (41_engine.md), power-on (R158), and the fetch: the command register
that DISPATCH decodes.
-/

namespace Sys2Proof.Machine

/-- `PowerOn()` (R158); the request on RESET_ENTRY has been taken. -/
def State.powerOn (s : State) : State :=
  { s.deviceReset with
    state := .idle
    outcome := .none
    timer := { s.timer with running := false, res := .fine }
    resetEntry := false }

/-- One poll of IDLE with its ingest point (R78), the transaction's registers at their start values (R17). -/
def idlePoll (s : State) : State :=
  let s1 := (s.beginTransaction.toPoll 0).waitPoll true
  if s1.line then s1.goto .classify else s1.toPoll 1

/-- CLASSIFY (R79). -/
def classify (s : State) : State :=
  let w := waitFree s.cfg.timing.tReset .coarse s
  if s.cfg.timing.tReset ≤ w.2 then w.1.deviceReset.endTx .reset
  else if w.2 < s.cfg.timing.tAttnMin then w.1.endTx .spurious
  else w.1.goto .sync

/-- SYNC (R80). -/
def syncWindow (s : State) : State :=
  let w := waitAssert s.cfg.timing.tSyncMax .fine s
  if w.2 < s.cfg.timing.tSyncMin ∨ s.cfg.timing.tSyncMax ≤ w.2 then w.1.raiseErr .syncWindow
  else w.1.goto .command

/-- COMMAND (R81). -/
def readCommand (s : State) : State :=
  let r := readByte s
  if r.2.2 = .none then (r.1.setCmd r.2.1).goto .srq else r.1.raiseErr r.2.2

/-- The end of the Service-Request Window: the line must settle high, and Tlt counts from there (R84, D24). -/
def srqSettle (s : State) : State :=
  let w := pollUntil false s.cfg.timing.tSrqCeil true s
  if s.cfg.timing.tSrqCeil ≤ w.2 then w.1.raiseErr .srqCeil
  else (w.1.timerStart .coarse).goto .dispatch

/-- CORE's own assertion in the window, from the phase start to `T_SRQ_ASSERT` (R84). Both drive changes leave the polls
after them time to fall where R71, R69 and R165 have them. -/
def srqAssert (s : State) : State :=
  let due := s.holdDue s.cfg.timing.tSrqAssert
  let h := holdUntil s.cfg.timing.tSrqAssert true ((s.dueBy due).driveLine true)
  (h.dueBy h.wrapDue).driveLine false

/-- The phase start of the Service-Request Window: the timer, and the address match (R82, R84). -/
def srqStart (s : State) : State :=
  let s1 := s.timerStart .coarse
  s1.setTarget (s1.matchMask (fieldA s1.tx.cmd))

/-- SRQ, the Service-Request Window (R83, R84). -/
def srqPhase (s : State) : State :=
  let s1 := srqStart s
  if s1.srqMask = ClassMask.zero then srqSettle s1
  else
    let p := s1.pollLine
    if p.2 then srqSettle (srqAssert p.1) else p.1.raiseErr .srqReleased

/-- The command byte DISPATCH decodes: the block's fetched instruction (R45, R85). -/
def State.fetched (s : State) : Instr := decodeByte s.tx.cmd

/-- The first half of every command's dispatch (R85): no class at address `a` ends the transaction as
NOT_ADDRESSED, otherwise the command's own part `f` runs for the class `Match(a)` selects. `target` is written
with `Match(a)`, the value SRQ wrote it with (R84): nothing between the two writes an address. -/
def State.command (a : BusAddr) (s : State) (f : DevClass → State → State) : State :=
  match s.matchClass a with
  | none => (s.setTarget ClassMask.zero).endTx .notAddressed
  | some k => f k (s.setTarget (ClassMask.onehot k))

end Sys2Proof.Machine
end

