-- ==== Sys2Proof/Machine/FlushReserved.lean ====
section
/-!
DEFINITION. The meanings of FLUSH (R97) and of the reserved commands (R98).
-/

namespace Sys2Proof.Machine

/-- FLUSH (R97): the addressed class's volatile registers cleared; `reg` is not written (R85). -/
def execFlush (a : BusAddr) (s : State) : Host.Outcome State Fault Refusal :=
  .next (s.command a fun k s1 => (s1.flushClass k).endTx .flushed)

/-- A reserved command with register bits `r`: `reg` is written, and the transaction ends with no action (R85, R98). -/
def State.reserved (a : BusAddr) (r : RegNum) (s : State) : State :=
  s.command a fun _ s1 => (s1.setReg r).endTx .reserved

/-- RSV0, low nibble 0000: it resets nothing (R57, R98). -/
def execRsv0 (a : BusAddr) (s : State) : Host.Outcome State Fault Refusal := .next (s.reserved a 0b00#2)

/-- RSV2, low nibble 0010 (R98). -/
def execRsv2 (a : BusAddr) (s : State) : Host.Outcome State Fault Refusal := .next (s.reserved a 0b10#2)

/-- RSV3, low nibble 0011 (R98). -/
def execRsv3 (a : BusAddr) (s : State) : Host.Outcome State Fault Refusal := .next (s.reserved a 0b11#2)

/-- RSV4, low nibbles 0100 to 0111 (R98). -/
def execRsv4 (a : BusAddr) (r : RegNum) (s : State) : Host.Outcome State Fault Refusal := .next (s.reserved a r)

end Sys2Proof.Machine
end

