-- ==== Sys2Proof/Machine/Listen.lean ====
section
/-!
DEFINITION. The Listen phase (R92) and the meanings of LISTEN reg0 to reg3 (R93 to R96).
-/

namespace Sys2Proof.Machine

/-- The reception loop: `m` bytes more at most, `n` already in the buffer; the first byte that fails to decode ends
it and is dropped (R92, C7). The result is the number of whole bytes. -/
def receiveBytes : Nat → Nat → State → State × Nat
  | 0, n, s => (s, n)
  | m + 1, n, s =>
    let r := readByte s
    if r.2.2 = .none then receiveBytes m (n + 1) (r.1.setBuf n r.2.1) else (r.1, n)

/-- What a received payload does: the identity policy for register 3, the 16-bit value for the others (R59, R92). -/
def State.deliver (k : DevClass) (s : State) : State :=
  if s.tx.reg = 0b11#2 then s.identityUpdate k (s.bufAt 0) (s.bufAt 1)
  else s.listenReg k s.tx.reg (wordOf (s.bufAt 0) (s.bufAt 1))

/-- The data part of Listen: up to 8 bytes, at least 2 (R92). -/
def listenData (k : DevClass) (s : State) : State :=
  let r := receiveBytes txbufCap 0 s
  let s1 := r.1.setLen r.2
  if r.2 < 2 then s1.raiseErr .listenShort else (s1.deliver k).endTx .listenOk

/-- The two resync waits after the start bit's fall (R72, R92). -/
def listenResync (k : DevClass) (s : State) : State :=
  let f := resyncFree s.cfg.timing.tListenResync s
  if s.cfg.timing.tListenResync ≤ f.2 then f.1.raiseErr .listenResync
  else
    let g := resyncAssert s.cfg.timing.tListenResync f.1
    if s.cfg.timing.tListenResync ≤ g.2 then g.1.raiseErr .listenResync else listenData k g.1

/-- The Listen phase of class `k` and register `reg` (R92). -/
def listenPhase (k : DevClass) (s : State) : State :=
  let w := pollUntil true s.cfg.timing.tListenStart true s
  if s.cfg.timing.tListenStart ≤ w.2 then w.1.raiseErr .listenStart else listenResync k w.1

/-- DISPATCH to LISTEN (R85): `reg` written, `state <- LISTEN`, and the phase. -/
def State.listen (a : BusAddr) (r : RegNum) (s : State) : State :=
  s.command a fun k s1 => listenPhase k ((s1.setReg r).goto .listen)

/-- LISTEN reg0 (R93). -/
def execListenR0 (a : BusAddr) (s : State) : Host.Outcome State Fault Refusal := .next (s.listen a 0b00#2)

/-- LISTEN reg1 (R94). -/
def execListenR1 (a : BusAddr) (s : State) : Host.Outcome State Fault Refusal := .next (s.listen a 0b01#2)

/-- LISTEN reg2 (R95). -/
def execListenR2 (a : BusAddr) (s : State) : Host.Outcome State Fault Refusal := .next (s.listen a 0b10#2)

/-- LISTEN reg3 (R96). -/
def execListenR3 (a : BusAddr) (s : State) : Host.Outcome State Fault Refusal := .next (s.listen a 0b11#2)

/-- A step in state LISTEN: the phase for the class in `target`. No rule enters LISTEN with no class addressed. -/
def resumeListen (s : State) : Host.Outcome State Fault Refusal :=
  match s.tx.target.first with
  | none => .fault .phaseWithoutTarget
  | some k => .next (listenPhase k s)

end Sys2Proof.Machine
end

