-- ==== Sys2Proof/Machine/Talk.lean ====
section
/-!
DEFINITION. The Talk phase (R87) and the meanings of TALK reg0 to reg3 (R88 to R91).
-/

namespace Sys2Proof.Machine

/-- The data bytes of a frame, one after another (R87). -/
def writeBytes : List Byte → State → State × Err
  | [], s => (s, .none)
  | b :: rest, s => onSent (writeByte b s) (writeBytes rest)

/-- A data frame: start bit 1, the bytes, stop bit 0 (R50, R54, R87). -/
def sendFrame (bytes : List Byte) (s : State) : State × Err :=
  onSent (onSent (writeBit true s) (writeBytes bytes)) (writeBit false)

/-- The collision flag of class `k`, set only in a Talk of register 3 (R87, R119). -/
def State.recordCollision (k : DevClass) (s : State) : State :=
  if s.tx.reg = 0b11#2 then s.setCollision k true else s

/-- A Talk's abort on a transmission error: a collision is recorded and raised as it is, any other error is
`TALK_TRANSPORT` (R87). -/
def talkAbort (k : DevClass) (e : Err) (s : State) : State :=
  if e.cls = .collision then (s.recordCollision k).raiseErr e else s.raiseErr .talkTransport

/-- The transmission and, after a fully successful one, the drain (R87). -/
def talkSend (k : DevClass) (s : State) : State :=
  let r := sendFrame s.payload s
  if r.2 = .none then (r.1.drainReg k r.1.tx.reg).endTx .talkOk else talkAbort k r.2 r.1

/-- The Talk phase of class `k` and register `reg` (R87): produce, turnaround, transmission. -/
def talkPhase (k : DevClass) (s : State) : State :=
  let s1 := s.produce k s.tx.reg
  if s1.tx.len = 0 then s1.endTx .talkNoData
  else
    let w := pollUntil true s1.cfg.timing.tTlt true s1
    if w.2 < s1.cfg.timing.tTlt then (w.1.recordCollision k).raiseErr .tlt else talkSend k w.1

/-- DISPATCH to TALK (R85): `reg` written, `state <- TALK`, and the phase. -/
def State.talk (a : BusAddr) (r : RegNum) (s : State) : State :=
  s.command a fun k s1 => talkPhase k ((s1.setReg r).goto .talk)

/-- TALK reg0 (R88). -/
def execTalkR0 (a : BusAddr) (s : State) : Host.Outcome State Fault Refusal := .next (s.talk a 0b00#2)

/-- TALK reg1 (R89). -/
def execTalkR1 (a : BusAddr) (s : State) : Host.Outcome State Fault Refusal := .next (s.talk a 0b01#2)

/-- TALK reg2 (R90). -/
def execTalkR2 (a : BusAddr) (s : State) : Host.Outcome State Fault Refusal := .next (s.talk a 0b10#2)

/-- TALK reg3 (R91). -/
def execTalkR3 (a : BusAddr) (s : State) : Host.Outcome State Fault Refusal := .next (s.talk a 0b11#2)

/-- A step in state TALK: the phase for the class in `target`. No rule enters TALK with no class addressed. -/
def resumeTalk (s : State) : Host.Outcome State Fault Refusal :=
  match s.tx.target.first with
  | none => .fault .phaseWithoutTarget
  | some k => .next (talkPhase k s)

end Sys2Proof.Machine
end

