-- ==== Sys2Proof/Machine/Dispatch.lean ====
section
/-!
DEFINITION. DISPATCH's selection (R85): one arm per command of the opcode table, each the meaning of that command.
-/

namespace Sys2Proof.Machine

-- The four Talk rows, the four Listen rows, Flush, and the reserved rows.
def exec (i : Instr) (s : State) : Host.Outcome State Fault Refusal :=
  match i with
  | .talkR0 a => Sys2Proof.Machine.execTalkR0 a s
  | .talkR1 a => Sys2Proof.Machine.execTalkR1 a s
  | .talkR2 a => Sys2Proof.Machine.execTalkR2 a s
  | .talkR3 a => Sys2Proof.Machine.execTalkR3 a s
  | .listenR0 a => Sys2Proof.Machine.execListenR0 a s
  | .listenR1 a => Sys2Proof.Machine.execListenR1 a s
  | .listenR2 a => Sys2Proof.Machine.execListenR2 a s
  | .listenR3 a => Sys2Proof.Machine.execListenR3 a s
  | .flush a => Sys2Proof.Machine.execFlush a s
  | .rsv0 a => Sys2Proof.Machine.execRsv0 a s
  | .rsv2 a => Sys2Proof.Machine.execRsv2 a s
  | .rsv3 a => Sys2Proof.Machine.execRsv3 a s
  | .rsv4 a r => Sys2Proof.Machine.execRsv4 a r s

end Sys2Proof.Machine
end

