-- ==== Sys2Proof/Machine/Step.lean ====
section
/-!
DEFINITION. One step of the machine: one move of the engine's state machine (R15, R76, R77), which is one poll in
IDLE and one whole phase in the other states; DISPATCH runs the fetched command to the transaction's end.
-/

namespace Sys2Proof.Machine

/-- One step. An ill-formed configuration has no meaning (R30); a request on RESET_ENTRY before the first
transaction is a power-on (R158). -/
def step (s : State) : Host.Outcome State Fault Refusal :=
  if s.cfg.wf = false then .refused .illFormedConfiguration
  else if s.resetEntry = true ∧ s.begun = false then .next s.powerOn
  else
    match s.state with
    | .idle => .next (idlePoll s)
    | .classify => .next (classify s)
    | .sync => .next (syncWindow s)
    | .command => .next (readCommand s)
    | .srq => .next (srqPhase s)
    | .dispatch => exec s.fetched s
    | .talk => resumeTalk s
    | .listen => resumeListen s

/-- `s` as SRQ leaves it for DISPATCH with the command byte `w` in `cmd` (bits past `nbits` zero): the window has
just ended with a poll and its ingest point, so the coarse timer counts Tlt from here (R84) and `target` holds the match
(R82); the transaction has begun, so RESET_ENTRY is no longer looked at (R158). -/
def State.withFetchWord (s : State) (nbits w : Nat) : State :=
  let s1 := (((s.setCmd (BitVec.ofNat 8 (w % 2 ^ nbits))).markPoll).startTimerNow .coarse).goto .dispatch
  { s1.setTarget (s1.matchMask (fieldA s1.tx.cmd)) with begun := true, ingestedNow := true }

end Sys2Proof.Machine
end

