-- ==== Sys2Proof/Safety.lean ====
section
/-!
DEFINITION. The terms claims are stated in: the invariant of R27 with the facts other rules add to it, the premises a
claim may take on the inputs (R47), the waveforms of bit cells and frames (R49, R54), and the effect of a run of
ingest operations.
-/

namespace Sys2Proof.Machine

/-! ## The invariant -/

/-- The configured mouse ranges contain 0, the value a reset gives the registers they bound (R23, R27 item 5). W1 to
W9 do not say so; see notes/assumptions/9. -/
structure MouseRanges (c : Config) : Prop where
  clampMin : c.mouseClampMin ≤ 0
  clampMax : 0 ≤ c.mouseClampMax
  accMin : c.mouseAccMin ≤ 0
  accMax : 0 ≤ c.mouseAccMax

/-- The mouse's registers lie in their ranges (R23, R27 item 5). -/
structure MouseInRange (c : Config) (m : Mouse) : Prop where
  accX : c.mouseAccMin ≤ m.accX ∧ m.accX ≤ c.mouseAccMax
  accY : c.mouseAccMin ≤ m.accY ∧ m.accY ≤ c.mouseAccMax
  repDx : c.mouseClampMin ≤ m.repDx ∧ m.repDx ≤ c.mouseClampMax
  repDy : c.mouseClampMin ≤ m.repDy ∧ m.repDy ≤ c.mouseClampMax

/-- The invariant of the machine between two steps: R27's five items, R21's legal handlers, R136's invariant, R144's
released line, R68's bound on the time to the next event, and the engine at rest in neither TALK nor LISTEN, which one
command runs through. -/
structure State.Inv (s : State) : Prop where
  /-- The configuration is well formed (R30). -/
  config : s.cfg.wf = true
  ranges : MouseRanges s.cfg
  /-- R27 item 1. -/
  addr : ∀ k, s.cfg.present k = true → (s.ids.get k).addr ≠ 0#4
  /-- R21: a handler is the default or one of `ACCEPT_HANDLERS[k]`. -/
  handler : ∀ k, s.cfg.present k = true →
    (s.ids.get k).handler = (s.cfg.classCfg k).defaultHandler ∨ (s.ids.get k).handler ∈ s.cfg.acceptHandlers k
  /-- R27 item 2, R127. -/
  queue : s.regs.kbd.size ≤ 16
  /-- R27 item 3. -/
  len : s.tx.len ≤ 8
  r0len : s.regs.arb.r0len ≤ 8
  drainKbd : s.tx.drainKbd ≤ 2
  /-- R136: "`r0ready = 1` implies `1 ≤ r0len ≤ 8`". -/
  ready : s.regs.arb.r0ready = true → 1 ≤ s.regs.arb.r0len
  /-- R27 item 4. -/
  target : ∀ k, s.tx.target.get k = true → s.cfg.present k = true ∧ s.tx.target = ClassMask.onehot k
  /-- R27 item 5. -/
  mouse : MouseInRange s.cfg s.regs.mouse
  /-- R144. -/
  released : s.drive = false
  notTalk : s.state ≠ .talk
  notListen : s.state ≠ .listen
  /-- The next engine event comes within `POLL_GAP` (R11, R68). -/
  paced : s.slack ≤ s.cfg.pollGap
  /-- At DISPATCH the target is the match of the command byte's address (R82, R84): writing it again changes
  nothing. -/
  latched : s.state = .dispatch → s.tx.target = s.matchMask (fieldA s.tx.cmd)

/-! ## Premises on the inputs -/

/-- No other driver pulls the line low from here on (R47, R171 "on a quiet bus"). -/
def State.quiet (s : State) : Prop := ∀ b ∈ s.env, b = false

/-- The state in which SRQ hands over to DISPATCH at this very tick: the line released by CORE, and the coarse timer
started now, the reference point of Tlt (R84, D24). -/
structure State.atTltStart (s : State) : Prop where
  config : s.cfg.wf = true
  released : s.drive = false
  timer : s.timer = ⟨.coarse, s.now, true⟩

/-! ## Waveforms -/

/-- The line's levels over a low of `lo` fine ticks and a high of `hi` fine ticks: one bit cell (R49). -/
def cellWave (c : Nat × Nat) : List Bool := List.replicate c.1 true ++ List.replicate c.2 false

/-- The levels of a sequence of cells, each a (low, high) pair. -/
def cellsWave (cs : List (Nat × Nat)) : List Bool := cs.flatMap cellWave

/-- The bits of a byte in the order of the line, bit 7 first (R36). -/
def bitsMsb (v : Byte) : List Bool :=
  [v.getLsbD 7, v.getLsbD 6, v.getLsbD 5, v.getLsbD 4, v.getLsbD 3, v.getLsbD 2, v.getLsbD 1, v.getLsbD 0]

/-- A received cell carries the bit `b`: its low lies in the envelope and on `b`'s side of the split, and its high ends
below the ceiling (R49, R75). -/
def cellCarries (t : Timing) (c : Nat × Nat) (b : Bool) : Bool :=
  decide (t.tBitLowMin ≤ c.1) && decide (c.1 < t.tBitLowMax) && (decide (c.1 < t.tBitSplit) == b) &&
    decide (1 ≤ c.2) && decide (c.2 < t.tBitHighMax)

/-- The cells carry the bits, one for one. -/
def cellsCarry (t : Timing) (cs : List (Nat × Nat)) (bs : List Bool) : Bool :=
  decide (cs.length = bs.length) && (cs.zip bs).all fun p => cellCarries t p.1 p.2

/-- The bits of a data frame: start bit 1, the bytes, stop bit 0 (R50, R54). -/
def frameBits (bytes : List Byte) : List Bool := true :: bytes.flatMap bitsMsb ++ [false]

/-- The changes of LINE_DRIVE, newest first on top of `out`, when CORE sends `bits` from the fine tick `t0` on: every
bit a fall at its start and a release `sentLow` later (R49, R73). -/
def sentEdges (t : Timing) : List Bool → Nat → List (Nat × Bool) → List (Nat × Bool)
  | [], _, out => out
  | b :: rest, t0, out =>
    sentEdges t rest (t0 + sentLow t b + sentHigh t b) ((t0 + sentLow t b, false) :: (t0, true) :: out)

/-! ## Runs of ingest operations and of steps -/

/-- The register file after the ingest operations `ops`, in order (R42). -/
def RegFile.runOps (c : Config) (ops : List IngestOp) (r : RegFile) : RegFile :=
  ops.foldl (fun r op => (r.ingest c op).1) r

/-- `t` follows `s` by polls alone, as far as the device state goes: INGEST has performed the first of its waiting
operations and nothing else has written the register file (R39, R40). -/
def ingestedOnly (s t : State) (r : RegFile) : Prop :=
  ∃ n, t.ingestIn = s.ingestIn.drop n ∧ t.regs = RegFile.runOps s.cfg (s.ingestIn.take n) r

/-- `t` has the device state a device reset of `s` leaves (R31, R157): each present class at its build-time identity
with its volatile registers cleared, and no register of an absent class written. -/
structure AfterDeviceReset (s t : State) : Prop where
  identity : ∀ k, s.cfg.present k = true →
    t.ids.get k = ⟨(s.cfg.classCfg k).defaultAddr, (s.cfg.classCfg k).defaultHandler, false⟩
  absent : ∀ k, s.cfg.present k = false → t.ids.get k = s.ids.get k
  kbd : s.cfg.present .kbd = true →
    t.regs.kbd.size = 0 ∧ t.regs.kbd.head = 0#4 ∧ (∀ i : Fin 16, t.regs.kbd.kq[i] = 0#8) ∧
      wordOf t.regs.kbd.r2hi t.regs.kbd.r2lo = s.cfg.kbdR2Clear
  mouse : s.cfg.present .mouse = true → t.regs.mouse = ⟨0, 0, 0#2, 0#2, 0, 0⟩
  arb : s.cfg.present .arb = true →
    (∀ i : Fin 8, t.regs.arb.r0buf[i] = 0#8) ∧ t.regs.arb.r0len = 0 ∧ t.regs.arb.r0ready = false ∧
      t.regs.arb.r2val = 0#16 ∧ t.regs.arb.r2set = false
  kbdAbsent : s.cfg.present .kbd = false → t.regs.kbd = s.regs.kbd
  mouseAbsent : s.cfg.present .mouse = false → t.regs.mouse = s.regs.mouse
  arbAbsent : s.cfg.present .arb = false → t.regs.arb = s.regs.arb

/-- Class `k` has no Talk data in register `r` (R105, R108, R110, R112, R113; D17). -/
def noTalkData (s : State) (k : DevClass) (r : RegNum) : Prop :=
  r = 0b01#2 ∨
  (k = .kbd ∧ r = 0b00#2 ∧ s.regs.kbd.size = 0) ∨
  (k = .mouse ∧ r = 0b00#2 ∧ s.regs.mouse.repButtons = s.regs.mouse.curButtons ∧ s.regs.mouse.accX = 0 ∧
    s.regs.mouse.accY = 0) ∨
  (k = .mouse ∧ r = 0b10#2) ∨
  (k = .arb ∧ r = 0b00#2 ∧ s.regs.arb.r0ready = false) ∨
  (k = .arb ∧ r = 0b10#2 ∧ s.regs.arb.r2set = false)

/-- No power-on request is about to be taken (R158). -/
def noPowerOnDue (s : State) : Prop := s.resetEntry = false ∨ s.begun = true

/-- The engine's part of `t` after an abort of `s` with error `e` (R143). -/
structure Aborted (e : Err) (t : State) : Prop where
  err : t.tx.err = e
  outcome : t.outcome = .error e
  released : t.drive = false
  idle : t.state = .idle

end Sys2Proof.Machine
end

