-- ==== Sys2Proof/Certificates/Slice0/Obligations.lean ====
section
/-!
DEFINITION. The statements for the provers, each a `def Obligations.<Name> : Prop`. The terms they use are defined in
Safety.lean. A statement about a wait takes the spec's reference spacing of polls (`s.gaps = []`, R68) where it gives
exact times; the others hold for every spacing.
-/

open Sys2Proof Sys2Proof.Machine

/-! ## Encoding (30_encoding.md) -/

/-- Command bytes written out from R55's fields and the examples of 95_test_vectors.md decode to their commands. -/
def Obligations.CommandBytesDecode : Prop :=
  decode [0x2C#8] = .ok (.talkR0 2#4, []) ∧ decode [0x3D#8] = .ok (.talkR1 3#4, []) ∧
  decode [0x4E#8] = .ok (.talkR2 4#4, []) ∧ decode [0x7F#8] = .ok (.talkR3 7#4, []) ∧
  decode [0x28#8] = .ok (.listenR0 2#4, []) ∧ decode [0x39#8] = .ok (.listenR1 3#4, []) ∧
  decode [0x4A#8] = .ok (.listenR2 4#4, []) ∧ decode [0x2B#8] = .ok (.listenR3 2#4, []) ∧
  decode [0x21#8] = .ok (.flush 2#4, []) ∧ decode [0x20#8] = .ok (.rsv0 2#4, []) ∧
  decode [0x22#8] = .ok (.rsv2 2#4, []) ∧ decode [0x23#8] = .ok (.rsv3 2#4, []) ∧
  decode [0x26#8] = .ok (.rsv4 2#4 2#2, [])

/-- Decoding an encoded instruction gives it back, with every operand value and whatever bytes follow (R55, R58). -/
def Obligations.DecodeOfEncode : Prop :=
  ∀ (i : Instr) (rest : List Byte), i.wf = true → decode (encode i ++ rest) = .ok (i, rest)

/-- Each of the 256 command bytes is the encoding of exactly the command it decodes to (R57). -/
def Obligations.EncodeOfDecode : Prop := ∀ b : Byte, encodeByte (decodeByte b) = b

/-! ## The step (10_state.md, 41_engine.md) -/

/-- A step at DISPATCH runs the command its byte decodes to. -/
def Obligations.StepRunsFetchedCommand : Prop :=
  ∀ (s : State) (i : Instr), s.cfg.wf = true → noPowerOnDue s → s.state = .dispatch →
    decode [s.tx.cmd] = .ok (i, []) → i.wf = true → step s = exec i s

/-- A step is refused exactly when one of R30's conditions W1 to W9 fails. -/
def Obligations.ConfigurationRefusedExactly : Prop :=
  ∀ s : State,
    step s = .refused .illFormedConfiguration ↔
      ¬ ((∀ f ∈ s.cfg.timing.fields, 1 ≤ f.2 ∧ f.2 ≤ 255) ∧
         s.cfg.timing.tAttnMin < s.cfg.timing.tReset ∧
         s.cfg.timing.tSyncMin < s.cfg.timing.tSyncMax ∧
         (s.cfg.timing.tBitLowMin < s.cfg.timing.tBitSplit ∧ s.cfg.timing.tBitSplit < s.cfg.timing.tBitLowMax) ∧
         s.cfg.timing.tBitShort < s.cfg.timing.tBitLong ∧
         s.cfg.timing.tSrqAssert < s.cfg.timing.tSrqCeil ∧
         (∀ f ∈ s.cfg.timing.fields,
           f.2 - 1 + (s.cfg.pollGap + s.cfg.rTicks f.1 - 1) / s.cfg.rTicks f.1 ≤ 255) ∧
         (∀ k, s.cfg.present k = true → (s.cfg.classCfg k).defaultAddr ≠ 0#4) ∧
         (2 ≤ s.cfg.coarseRatio ∧ 1 ≤ s.cfg.pollGap))

/-- No step writes the configuration (R28). -/
def Obligations.StepLeavesConfiguration : Prop := ∀ s t : State, step s = .next t → t.cfg = s.cfg

/-- The invariant holds right after power-on. -/
def Obligations.InvHoldsAtReset : Prop := State.reset.Inv

/-- Every step keeps the invariant (R27, R127, R136, R144), whatever the line and INGEST do. -/
def Obligations.StepKeepsInv : Prop := ∀ s t : State, s.Inv → step s = .next t → t.Inv

/-- From every state with the invariant a step goes on: no waveform stops CORE (93, I13). -/
def Obligations.StepGoesOnFromInv : Prop := ∀ s : State, s.Inv → ∃ t, step s = .next t

/-- The device reset: every present class at its defaults, every volatile register cleared, nothing else but the
line driver written (R157; the collision flag among them by the spec's choice D22). -/
def Obligations.DeviceResetRestoresDefaults : Prop :=
  ∀ s : State,
    AfterDeviceReset s s.deviceReset ∧
    ∃ ids regs, s.deviceReset =
      { s with
        ids := ids
        regs := regs
        drive := false
        lineOut := if s.drive = true then (s.now, false) :: s.lineOut else s.lineOut }

/-- A request on RESET_ENTRY before the first transaction is a power-on (R158, R31). -/
def Obligations.PowerOnBeforeFirstTransaction : Prop :=
  ∀ s : State, s.cfg.wf = true → s.resetEntry = true → s.begun = false →
    ∃ t, step s = .next t ∧ AfterDeviceReset s t ∧ t.state = .idle ∧ t.outcome = .none ∧ t.drive = false ∧
      t.timer.running = false ∧ t.count = 0#8 ∧ t.timer.res = .fine ∧ t.ingestIn = s.ingestIn ∧ t.now = s.now

/-- One poll of IDLE: a fresh transaction, one ingest point whose result goes to the INGEST port (NOP's where INGEST
performs nothing), and CLASSIFY once the line is asserted; a released line keeps CORE in IDLE for as long as it lasts
(R17, R40, R78, R128, R130). A poll that an ended transaction has made at this tick already, with its ingest point, is
IDLE's too and gets no second one (R68, the model's reading in notes/assumptions/10). -/
def Obligations.IdlePollsUntilAsserted : Prop :=
  ∀ s : State, s.cfg.wf = true → noPowerOnDue s → s.state = .idle → s.gaps = [] →
    ∃ t, step s = .next t ∧ t.tx = Txn.fresh ∧ t.begun = true ∧ t.ids = s.ids ∧ t.outcome = s.outcome ∧
      t.drive = s.drive ∧ t.lineOut = s.lineOut ∧ t.timer = s.timer ∧
      (if s.ingestedNow = true then t.ingestIn = s.ingestIn ∧ t.regs = s.regs ∧ t.ingestOut = s.ingestOut
       else
        t.ingestIn = s.ingestIn.drop 1 ∧ t.regs = RegFile.runOps s.cfg (s.ingestIn.take 1) s.regs ∧
          t.ingestOut = (s.regs.ingest s.cfg (s.ingestIn.headD .nop)).2 :: s.ingestOut) ∧
      (if s.line = true then t.state = .classify ∧ t.now = s.now
       else t.state = .idle ∧ t.now = s.now + 1)

/-- CLASSIFY by the length of the low pulse: reset, spurious, or attention (R79, R51, R157). -/
def Obligations.ClassifyByLowLength : Prop :=
  ∀ (s : State) (d : Nat) (rest : List Bool),
    s.cfg.wf = true → noPowerOnDue s → s.state = .classify → s.drive = false → s.gaps = [] →
    s.env = List.replicate d true ++ false :: rest →
    ∃ t, step s = .next t ∧ t.drive = false ∧ t.lineOut = s.lineOut ∧
      (if s.cfg.timing.tReset * s.cfg.coarseRatio ≤ d then
        t.outcome = .reset ∧ t.state = .idle ∧ AfterDeviceReset s t ∧
          t.now = s.now + s.cfg.timing.tReset * s.cfg.coarseRatio
       else if d < s.cfg.timing.tAttnMin * s.cfg.coarseRatio then
        t.outcome = .spurious ∧ t.state = .idle ∧ t.ids = s.ids ∧ ingestedOnly s t s.regs ∧ t.now = s.now + d
       else
        t.outcome = s.outcome ∧ t.state = .sync ∧ t.ids = s.ids ∧ ingestedOnly s t s.regs ∧ t.now = s.now + d)

/-- SYNC by the length of the high interval: inside `[T_SYNC_MIN, T_SYNC_MAX)` COMMAND follows, outside it the
transaction aborts with `TIMING(SYNC_WINDOW)` (R80). -/
def Obligations.SyncByHighLength : Prop :=
  ∀ (s : State) (d : Nat) (rest : List Bool),
    s.cfg.wf = true → noPowerOnDue s → s.state = .sync → s.drive = false → s.gaps = [] →
    s.env = List.replicate d false ++ true :: rest →
    ∃ t, step s = .next t ∧ t.ids = s.ids ∧ ingestedOnly s t s.regs ∧ t.lineOut = s.lineOut ∧
      (if s.cfg.timing.tSyncMin ≤ d ∧ d < s.cfg.timing.tSyncMax then
        t.state = .command ∧ t.outcome = s.outcome ∧ t.now = s.now + d
       else Aborted .syncWindow t ∧ t.now = s.now + min d s.cfg.timing.tSyncMax)

/-- COMMAND reads the byte that eight legal cells carry, bit 7 first, up to the stop bit's fall (R75, R81, R52). -/
def Obligations.CommandReadsByteFromCells : Prop :=
  ∀ (s : State) (v : Byte) (cells : List (Nat × Nat)) (rest : List Bool),
    s.cfg.wf = true → noPowerOnDue s → s.state = .command → s.drive = false → s.gaps = [] →
    cellsCarry s.cfg.timing cells (bitsMsb v) = true → s.env = cellsWave cells ++ true :: rest →
    ∃ t, step s = .next t ∧ t.state = .srq ∧ t.tx = { s.tx with cmd := v } ∧ t.env = true :: rest ∧
      t.now = s.now + (cellsWave cells).length ∧ t.outcome = s.outcome ∧ t.ids = s.ids ∧
      ingestedOnly s t s.regs ∧ t.lineOut = s.lineOut

/-- A cell outside the envelope, after any number of legal cells from none to seven, aborts COMMAND with the error of
the bound it breaks, and no bit read so far reaches `cmd` (R75, R81). A first cell may have no low at all; a later one
begins with the fall that ended the cell before it. -/
def Obligations.CommandBitErrors : Prop :=
  ∀ (s : State) (cells : List (Nat × Nat)) (bits : List Bool) (lo hi : Nat) (rest : List Bool),
    s.cfg.wf = true → noPowerOnDue s → s.state = .command → s.drive = false → s.gaps = [] →
    cellsCarry s.cfg.timing cells bits = true → cells.length ≤ 7 → (cells = [] ∨ 1 ≤ lo) →
    1 ≤ hi → s.env = cellsWave cells ++ List.replicate lo true ++ List.replicate hi false ++ rest →
    (s.cfg.timing.tBitLowMin ≤ lo → lo < s.cfg.timing.tBitLowMax → s.cfg.timing.tBitHighMax ≤ hi) →
    ∃ t, step s = .next t ∧ t.ids = s.ids ∧ ingestedOnly s t s.regs ∧ t.tx.cmd = s.tx.cmd ∧ t.lineOut = s.lineOut ∧
      (if s.cfg.timing.tBitLowMax ≤ lo then
        Aborted .rbLowLong t ∧ t.now = s.now + (cellsWave cells).length + s.cfg.timing.tBitLowMax
       else if lo < s.cfg.timing.tBitLowMin then
        Aborted .rbLowShort t ∧ t.now = s.now + (cellsWave cells).length + lo
       else
        Aborted .rbHighLong t ∧ t.now = s.now + (cellsWave cells).length + lo + s.cfg.timing.tBitHighMax)

/-- `NeedsService()` bit by bit (R101). -/
def Obligations.NeedsServiceMask : Prop :=
  ∀ s : State,
    (s.needsService.kbd = true ↔ s.cfg.present .kbd = true ∧ s.regs.kbd.size > 0) ∧
    (s.needsService.mouse = true ↔
      s.cfg.present .mouse = true ∧
        (s.regs.mouse.repButtons ≠ s.regs.mouse.curButtons ∨ s.regs.mouse.accX ≠ 0 ∨ s.regs.mouse.accY ≠ 0)) ∧
    (s.needsService.arb = true ↔ s.cfg.present .arb = true ∧ s.regs.arb.r0ready = true)

/-- The class that answers is the first present one at the address, in the order KBD, MOUSE, ARB; with the invariant,
address 0 matches no class (R34, R82, R120). -/
def Obligations.FirstMatchAnswers : Prop :=
  (∀ (s : State) (a : BusAddr) (k : DevClass),
    s.matchClass a = some k ↔
      (s.cfg.present k = true ∧ (s.ids.get k).addr = a) ∧
      ∀ j, (j = .kbd ∧ k ≠ .kbd) ∨ (j = .mouse ∧ k = .arb) →
        ¬ (s.cfg.present j = true ∧ (s.ids.get j).addr = a)) ∧
  (∀ s : State, s.Inv → s.matchMask 0#4 = ClassMask.zero)

/-- SRQ with no request due: CORE does not drive; the line's release in time leads to DISPATCH with Tlt counting
from it, and a line still low at `T_SRQ_CEIL` aborts (R83, R84). -/
def Obligations.SrqWithoutRequest : Prop :=
  ∀ (s : State) (d : Nat) (rest : List Bool),
    s.cfg.wf = true → noPowerOnDue s → s.state = .srq → s.drive = false → s.gaps = [] →
    s.needsService.andNot (s.matchMask (fieldA s.tx.cmd)) = ClassMask.zero →
    s.env = List.replicate d true ++ false :: rest →
    ∃ t, step s = .next t ∧ t.ids = s.ids ∧ ingestedOnly s t s.regs ∧ t.lineOut = s.lineOut ∧
      t.tx.target = s.matchMask (fieldA s.tx.cmd) ∧ t.tx.cmd = s.tx.cmd ∧
      (if d < s.cfg.timing.tSrqCeil * s.cfg.coarseRatio then
        t.state = .dispatch ∧ t.atTltStart ∧ t.now = s.now + d
       else Aborted .srqCeil t ∧ t.now = s.now + s.cfg.timing.tSrqCeil * s.cfg.coarseRatio)

/-- SRQ with a request due and the line still low: CORE holds the line from the phase start to `T_SRQ_ASSERT`, one
assertion however many classes are pending; then the line must be high below `T_SRQ_CEIL` (R53, R83, R84). -/
def Obligations.SrqRequestHoldsLine : Prop :=
  ∀ (s : State) (d : Nat) (rest : List Bool),
    s.cfg.wf = true → noPowerOnDue s → s.state = .srq → s.drive = false → s.gaps = [] →
    s.needsService.andNot (s.matchMask (fieldA s.tx.cmd)) ≠ ClassMask.zero →
    1 ≤ d → s.env = List.replicate d true ++ rest → (∀ b ∈ rest, b = false) →
    ∃ t, step s = .next t ∧ t.ids = s.ids ∧ ingestedOnly s t s.regs ∧
      t.lineOut = (s.now + s.cfg.timing.tSrqAssert * s.cfg.coarseRatio, false) :: (s.now, true) :: s.lineOut ∧
      t.tx.target = s.matchMask (fieldA s.tx.cmd) ∧ t.tx.cmd = s.tx.cmd ∧
      (if d < s.cfg.timing.tSrqCeil * s.cfg.coarseRatio then
        t.state = .dispatch ∧ t.atTltStart ∧
          t.now = s.now + max d (s.cfg.timing.tSrqAssert * s.cfg.coarseRatio)
       else Aborted .srqCeil t ∧ t.now = s.now + s.cfg.timing.tSrqCeil * s.cfg.coarseRatio)

/-- SRQ with a request due and the line already released at the decision poll aborts at that poll without driving, for
every spacing of polls: the decision poll may come after the fall that COMMAND saw (R84, D46). -/
def Obligations.SrqRequestTooLate : Prop :=
  ∀ s : State,
    s.cfg.wf = true → noPowerOnDue s → s.state = .srq →
    s.needsService.andNot (s.matchMask (fieldA s.tx.cmd)) ≠ ClassMask.zero → (srqStart s).pollLine.2 = false →
    ∃ t, step s = .next t ∧ Aborted .srqReleased t ∧ t.lineOut = s.lineOut ∧ t.ids = s.ids ∧ t.regs = s.regs ∧
      t.ingestIn = s.ingestIn ∧ t.ingestOut = s.ingestOut ∧ t.tx.cmd = s.tx.cmd ∧
      t.tx.target = s.matchMask (fieldA s.tx.cmd) ∧ t.now = (srqStart s).pollLine.1.now

/-! ## Commands (42_bus_commands.md, 43_device_registers.md) -/

/-- A command, of any row, that addresses no present class ends as NOT_ADDRESSED and does nothing more (R85). -/
def Obligations.UnaddressedCommandEnds : Prop :=
  ∀ (i : Instr) (s : State), s.drive = false → s.matchClass i.addr = none →
    exec i s = .next
      { s with state := .idle, outcome := .notAddressed, tx := { s.tx with target := ClassMask.zero } }

/-- FLUSH clears the addressed class's volatile registers and nothing else: its identity, the other classes, the line
and the rest stay (R97, R121; the flag kept by the spec's choice D22, register 2 cleared to `KBD_R2_CLEAR` by D21). -/
def Obligations.FlushClearsAddressedClass : Prop :=
  ∀ (s : State) (a : BusAddr) (k : DevClass), s.drive = false → s.matchClass a = some k →
    exec (.flush a) s = .next
      { s with
        state := .idle
        outcome := .flushed
        tx := { s.tx with target := ClassMask.onehot k }
        regs :=
          match k with
          | .kbd => { s.regs with kbd :=
              { kq := Vector.replicate 16 0#8, head := 0#4, size := 0,
                r2hi := s.cfg.kbdR2Clear.extractLsb' 8 8, r2lo := s.cfg.kbdR2Clear.extractLsb' 0 8 } }
          | .mouse => { s.regs with mouse :=
              { accX := 0, accY := 0, curButtons := 0#2, repButtons := 0#2, repDx := 0, repDy := 0 } }
          | .arb => { s.regs with arb :=
              { r0buf := Vector.replicate 8 0#8, r0len := 0, r0ready := false, r2val := 0#16, r2set := false } } }

/-- The reserved commands end their transaction as RESERVED with no action; only `reg` takes the command's bits
(R57, R85, R98). -/
def Obligations.ReservedCommandsDoNothing : Prop :=
  ∀ (s : State) (a : BusAddr) (k : DevClass) (q : RegNum), s.drive = false → s.matchClass a = some k →
    ∀ p ∈ [(Instr.rsv0 a, 0b00#2), (Instr.rsv2 a, 0b10#2), (Instr.rsv3 a, 0b11#2), (Instr.rsv4 a q, q)],
      exec p.1 s = .next
        { s with state := .idle, outcome := .reserved, tx := { s.tx with target := ClassMask.onehot k, reg := p.2 } }

/-- A Talk of a register with no data ends silently: no turnaround, no bit, no device state written. TALK reg1 has no
data in any class (R87, R89, R113; D17, D33). -/
def Obligations.TalkWithoutDataIsSilent : Prop :=
  ∀ (s : State) (a : BusAddr) (k : DevClass) (r : RegNum), s.drive = false → s.matchClass a = some k →
    noTalkData s k r →
    exec (talkOf a r) s = .next
      { s with
        state := .idle
        outcome := .talkNoData
        tx := { s.tx with target := ClassMask.onehot k, reg := r, len := 0 } }

/-- TALK reg1 by its own name, for every class. -/
def Obligations.TalkReg1AlwaysSilent : Prop :=
  ∀ (s : State) (a : BusAddr) (k : DevClass), s.drive = false → s.matchClass a = some k →
    ∃ t, exec (.talkR1 a) s = .next t ∧ t.outcome = .talkNoData ∧ t.state = .idle ∧ t.regs = s.regs ∧
      t.ids = s.ids ∧ t.lineOut = s.lineOut ∧ t.now = s.now

/-- What the keyboard's registers 0 and 2 give a Talk (R105, R107). -/
def Obligations.KeyboardTalkBytes : Prop :=
  ∀ s : State,
    (s.regs.kbd.size = 1 →
      (s.produce .kbd 0b00#2).payload = [s.regs.kbd.entry 0, 0xFF#8] ∧ (s.produce .kbd 0b00#2).tx.drainKbd = 1) ∧
    (2 ≤ s.regs.kbd.size →
      (s.produce .kbd 0b00#2).payload = [s.regs.kbd.entry 0, s.regs.kbd.entry 1] ∧
        (s.produce .kbd 0b00#2).tx.drainKbd = 2) ∧
    (s.produce .kbd 0b10#2).payload = [s.regs.kbd.r2hi, s.regs.kbd.r2lo] ∧
    (s.produce .kbd 0b00#2).regs = s.regs ∧ (s.produce .kbd 0b10#2).regs = s.regs

/-- What the mouse's register 0 gives a Talk: the inverted buttons over the clamped deltas as 7-bit two's complement,
Y first; the reported deltas are remembered (R61, R108; the layout is the spec's general knowledge G5). -/
def Obligations.MouseTalkBytes : Prop :=
  ∀ s : State,
    (s.regs.mouse.repButtons ≠ s.regs.mouse.curButtons ∨ s.regs.mouse.accX ≠ 0 ∨ s.regs.mouse.accY ≠ 0) →
    ∃ dx dy : Int,
      dx = min (max s.regs.mouse.accX s.cfg.mouseClampMin) s.cfg.mouseClampMax ∧
      dy = min (max s.regs.mouse.accY s.cfg.mouseClampMin) s.cfg.mouseClampMax ∧
      (s.produce .mouse 0b00#2).payload =
        [BitVec.ofBool (!s.regs.mouse.curButtons.getLsbD 0) ++ BitVec.ofInt 7 dy,
         BitVec.ofBool (!s.regs.mouse.curButtons.getLsbD 1) ++ BitVec.ofInt 7 dx] ∧
      (s.produce .mouse 0b00#2).tx.drainButtons = s.regs.mouse.curButtons ∧
      (s.produce .mouse 0b00#2).regs =
        { s.regs with mouse := { s.regs.mouse with repDx := dx, repDy := dy } }

/-- What the arbitrary class's registers 0 and 2 give a Talk (R110, R112). -/
def Obligations.ArbitraryTalkBytes : Prop :=
  ∀ s : State,
    (s.regs.arb.r0ready = true → s.regs.arb.r0len ≤ 8 →
      (s.produce .arb 0b00#2).payload = s.regs.arb.r0buf.toList.take s.regs.arb.r0len) ∧
    (s.regs.arb.r2set = true →
      (s.produce .arb 0b10#2).payload =
        [s.regs.arb.r2val.extractLsb' 8 8, s.regs.arb.r2val.extractLsb' 0 8]) ∧
    (s.produce .arb 0b00#2).regs = s.regs ∧ (s.produce .arb 0b10#2).regs = s.regs

/-- Register 3 of every class: `R3_HI[k]` over the address, then the handler (R60, R114; `R3_HI` is D16's choice). -/
def Obligations.IdentityTalkBytes : Prop :=
  ∀ (s : State) (k : DevClass),
    (s.produce k 0b11#2).payload =
      [(s.cfg.classCfg k).r3Hi ++ (s.ids.get k).addr, (s.ids.get k).handler] ∧
    (s.produce k 0b11#2).regs = s.regs ∧ (s.produce k 0b11#2).ids = s.ids

/-- A Talk with data on a quiet bus: after `T_TLT` CORE sends the start bit, exactly the produced bytes, bit 7 first,
and the stop bit, each bit with R49's phases, and the frame takes R171's time (R54, R73, R74, R87). The values of the
start and the stop bit are the spec's choice D11, the origin of Tlt its choice D24. -/
def Obligations.TalkSendsFrame : Prop :=
  ∀ (s : State) (a : BusAddr) (k : DevClass) (r : RegNum),
    s.atTltStart → s.gaps = [] → s.quiet → s.matchClass a = some k →
    1 ≤ (s.produce k r).tx.len → (s.produce k r).tx.len ≤ 8 →
    ∃ t, exec (talkOf a r) s = .next t ∧ t.outcome = .talkOk ∧ t.state = .idle ∧ t.drive = false ∧
      t.lineOut =
        sentEdges s.cfg.timing (frameBits (s.produce k r).payload)
          (s.now + s.cfg.timing.tTlt * s.cfg.coarseRatio) s.lineOut ∧
      t.now = s.now + s.cfg.timing.tTlt * s.cfg.coarseRatio +
        (8 * (s.produce k r).tx.len + 2) * (s.cfg.timing.tBitShort + s.cfg.timing.tBitLong)

/-- A Talk on a quiet bus, whatever the poll spacing and whatever INGEST does meanwhile, drains what was there at its
start and not the state read again: the one or two entries the queue held, the clamped deltas and the buttons as they
were; what INGEST adds meanwhile stays. No identity changes (R87, R103, R106, R109, R111, R163). -/
def Obligations.TalkDrainsByRecord : Prop :=
  ∀ (s : State) (a : BusAddr) (k : DevClass) (r : RegNum),
    s.atTltStart → s.quiet → s.matchClass a = some k → 1 ≤ (s.produce k r).tx.len → (s.produce k r).tx.len ≤ 8 →
    ∃ t n, exec (talkOf a r) s = .next t ∧ t.outcome = .talkOk ∧ t.ids = s.ids ∧
      t.ingestIn = s.ingestIn.drop n ∧
      (∀ after, after = RegFile.runOps s.cfg (s.ingestIn.take n) (s.produce k r).regs →
        (r ≠ 0b00#2 → t.regs = after) ∧
        (r = 0b00#2 → k = .kbd → s.regs.kbd.size ≤ 16 →
          t.regs.kbd.entries = after.kbd.entries.drop (min s.regs.kbd.size 2) ∧
          t.regs =
            { after with kbd := { after.kbd with
                head := after.kbd.head + BitVec.ofNat 4 (min s.regs.kbd.size 2)
                size := after.kbd.size - min s.regs.kbd.size 2 } }) ∧
        (r = 0b00#2 → k = .mouse →
          t.regs =
            { after with mouse := { after.mouse with
                accX := min (max (after.mouse.accX -
                  min (max s.regs.mouse.accX s.cfg.mouseClampMin) s.cfg.mouseClampMax) s.cfg.mouseAccMin) s.cfg.mouseAccMax
                accY := min (max (after.mouse.accY -
                  min (max s.regs.mouse.accY s.cfg.mouseClampMin) s.cfg.mouseClampMax) s.cfg.mouseAccMin) s.cfg.mouseAccMax
                repButtons := s.regs.mouse.curButtons } }) ∧
        (r = 0b00#2 → k = .arb → t.regs = { after with arb := { after.arb with r0ready := false } }))

/-- TALK reg0 of the keyboard on a quiet bus without ingest removes one entry when one was queued, two otherwise
(R88, R106, R126). -/
def Obligations.KeyboardTalkRemovesWhatWasSent : Prop :=
  ∀ (s : State) (a : BusAddr),
    s.atTltStart → s.quiet → s.ingestIn = [] → s.matchClass a = some .kbd →
    1 ≤ s.regs.kbd.size → s.regs.kbd.size ≤ 16 →
    ∃ t, exec (.talkR0 a) s = .next t ∧ t.outcome = .talkOk ∧
      t.regs.kbd.entries = s.regs.kbd.entries.drop (min s.regs.kbd.size 2) ∧
      t.regs.kbd.r2hi = s.regs.kbd.r2hi ∧ t.regs.kbd.r2lo = s.regs.kbd.r2lo ∧
      t.regs.mouse = s.regs.mouse ∧ t.regs.arb = s.regs.arb ∧ t.ids = s.ids

/-- TALK reg0 of the mouse on a quiet bus without ingest subtracts exactly the reported deltas and latches the
buttons sent (R88, R109). -/
def Obligations.MouseTalkSubtractsWhatWasSent : Prop :=
  ∀ (s : State) (a : BusAddr),
    s.atTltStart → s.quiet → s.ingestIn = [] → s.matchClass a = some .mouse →
    MouseRanges s.cfg → MouseInRange s.cfg s.regs.mouse →
    (s.regs.mouse.repButtons ≠ s.regs.mouse.curButtons ∨ s.regs.mouse.accX ≠ 0 ∨ s.regs.mouse.accY ≠ 0) →
    ∃ t, exec (.talkR0 a) s = .next t ∧ t.outcome = .talkOk ∧
      t.regs.mouse.accX =
        s.regs.mouse.accX - min (max s.regs.mouse.accX s.cfg.mouseClampMin) s.cfg.mouseClampMax ∧
      t.regs.mouse.accY =
        s.regs.mouse.accY - min (max s.regs.mouse.accY s.cfg.mouseClampMin) s.cfg.mouseClampMax ∧
      t.regs.mouse.repButtons = s.regs.mouse.curButtons ∧ t.regs.mouse.curButtons = s.regs.mouse.curButtons ∧
      t.regs.kbd = s.regs.kbd ∧ t.regs.arb = s.regs.arb ∧ t.ids = s.ids

/-- TALK reg0 of the arbitrary class clears `r0ready` and keeps the buffer; TALK reg2 and reg3 of any class change no
device state (R88, R90, R91, R103, R111). -/
def Obligations.ArbitraryAndStatusTalks : Prop :=
  ∀ (s : State) (a : BusAddr) (k : DevClass),
    s.atTltStart → s.quiet → s.ingestIn = [] → s.matchClass a = some k →
    (k = .arb → s.regs.arb.r0ready = true → 1 ≤ s.regs.arb.r0len → s.regs.arb.r0len ≤ 8 →
      ∃ t, exec (.talkR0 a) s = .next t ∧ t.outcome = .talkOk ∧ t.ids = s.ids ∧
        t.regs = { s.regs with arb := { s.regs.arb with r0ready := false } }) ∧
    (k = .kbd ∨ (k = .arb ∧ s.regs.arb.r2set = true) →
      ∃ t, exec (.talkR2 a) s = .next t ∧ t.outcome = .talkOk ∧ t.ids = s.ids ∧ t.regs = s.regs) ∧
    (∃ t, exec (.talkR3 a) s = .next t ∧ t.outcome = .talkOk ∧ t.ids = s.ids ∧ t.regs = s.regs)

/-- Another device pulls the line low before `T_TLT` ends: no bit is sent, the collision flag is set only in a Talk
of register 3, and the transaction aborts with `COLLISION(TLT)` (R87, R91, S5). -/
def Obligations.TurnaroundCollision : Prop :=
  ∀ (s : State) (a : BusAddr) (k : DevClass) (r : RegNum) (d : Nat) (rest : List Bool),
    s.atTltStart → s.gaps = [] → s.matchClass a = some k → 1 ≤ (s.produce k r).tx.len →
    d < s.cfg.timing.tTlt * s.cfg.coarseRatio → s.env = List.replicate d false ++ true :: rest →
    ∃ t, exec (talkOf a r) s = .next t ∧ Aborted .tlt t ∧ t.lineOut = s.lineOut ∧ t.now = s.now + d ∧
      ingestedOnly s t (s.produce k r).regs ∧
      t.ids = (if r = 0b11#2 then s.ids.set k { s.ids.get k with collision := true } else s.ids)

/-- Whatever the line does, a Talk that ends in an error ends in a collision, with the line released, nothing
drained, and the collision flag set exactly in a Talk of register 3 (R86, R87, R145). -/
def Obligations.FailedTalkDrainsNothing : Prop :=
  ∀ (s t : State) (a : BusAddr) (k : DevClass) (r : RegNum) (e : Err),
    s.matchClass a = some k → exec (talkOf a r) s = .next t → t.outcome = .error e →
    e.cls = .collision ∧ Aborted e t ∧ ingestedOnly s t (s.produce k r).regs ∧
      t.ids = (if r = 0b11#2 then s.ids.set k { s.ids.get k with collision := true } else s.ids)

/-- A Talk changes no register but its own class's, and none at all where its register is not 0, as long as INGEST
does nothing; command byte, configuration and the other identities stay (the Talk rows' frame). -/
def Obligations.TalkFrame : Prop :=
  ∀ (s t : State) (a : BusAddr) (k : DevClass) (r : RegNum),
    s.matchClass a = some k → exec (talkOf a r) s = .next t →
    t.cfg = s.cfg ∧ t.tx.cmd = s.tx.cmd ∧ t.tx.target = ClassMask.onehot k ∧ t.tx.reg = r ∧ t.begun = s.begun ∧
      t.resetEntry = s.resetEntry ∧
      (∀ j, (t.ids.get j).addr = (s.ids.get j).addr ∧ (t.ids.get j).handler = (s.ids.get j).handler) ∧
      (∀ j, j ≠ k → t.ids.get j = s.ids.get j) ∧
      (s.ingestIn = [] →
        (k ≠ .kbd → t.regs.kbd = s.regs.kbd) ∧ (k ≠ .mouse → t.regs.mouse = s.regs.mouse) ∧
        (k ≠ .arb → t.regs.arb = s.regs.arb) ∧ (r ≠ 0b00#2 → t.regs = s.regs) ∧
        t.regs.kbd.kq = s.regs.kbd.kq ∧ t.regs.kbd.r2hi = s.regs.kbd.r2hi ∧ t.regs.kbd.r2lo = s.regs.kbd.r2lo ∧
        t.regs.mouse.curButtons = s.regs.mouse.curButtons ∧ t.regs.arb.r0buf = s.regs.arb.r0buf ∧
        t.regs.arb.r0len = s.regs.arb.r0len ∧ t.regs.arb.r2val = s.regs.arb.r2val ∧
        t.regs.arb.r2set = s.regs.arb.r2set)

/-- A Listen that receives a start bit, two to eight bytes in legal cells and a stop bit ends as LISTEN_OK and delivers
the first two bytes: to the identity policy for register 3, to arbitrary register 2 for register 2, to nothing else
(R59, R92 to R96, R115 to R117). The bytes past the second are ignored. -/
def Obligations.ListenDeliversPayload : Prop :=
  ∀ (s : State) (a : BusAddr) (k : DevClass) (r : RegNum) (b0 b1 : Byte) (more : List Byte)
    (g ls hs : Nat) (cells : List (Nat × Nat)) (sl : Nat) (rest : List Bool),
    s.atTltStart → s.gaps = [] → s.matchClass a = some k → more.length ≤ 6 →
    g < s.cfg.timing.tListenStart * s.cfg.coarseRatio →
    1 ≤ ls → ls < s.cfg.timing.tListenResync → 1 ≤ hs → hs < s.cfg.timing.tListenResync →
    cellsCarry s.cfg.timing cells ((b0 :: b1 :: more).flatMap bitsMsb) = true →
    s.cfg.timing.tBitLowMin ≤ sl → sl < s.cfg.timing.tBitLowMax →
    s.env = List.replicate g false ++ cellWave (ls, hs) ++ cellsWave cells ++
      cellWave (sl, s.cfg.timing.tBitHighMax) ++ rest →
    ∃ t n, exec (listenOf a r) s = .next t ∧ t.outcome = .listenOk ∧ t.state = .idle ∧ t.lineOut = s.lineOut ∧
      t.tx.len = 2 + more.length ∧ t.ingestIn = s.ingestIn.drop n ∧
      t.ids = (if r = 0b11#2 then
          s.ids.set k ((s.ids.get k).update s.cfg (s.cfg.acceptHandlers k) b0 b1) else s.ids) ∧
      t.regs =
        (let after := RegFile.runOps s.cfg (s.ingestIn.take n) s.regs
         if k = .arb ∧ r = 0b10#2 then
          { after with arb := { after.arb with r2val := b0 ++ b1, r2set := true } } else after)

/-- A Listen that receives fewer than two whole bytes aborts with `LISTEN_SHORT` and writes no device state
(R37, R92, D32). -/
def Obligations.ListenShortFrameDiscarded : Prop :=
  ∀ (s : State) (a : BusAddr) (k : DevClass) (r : RegNum) (bs : List Byte)
    (g ls hs : Nat) (cells : List (Nat × Nat)) (sl : Nat) (rest : List Bool),
    s.atTltStart → s.gaps = [] → s.matchClass a = some k → bs.length ≤ 1 →
    g < s.cfg.timing.tListenStart * s.cfg.coarseRatio →
    1 ≤ ls → ls < s.cfg.timing.tListenResync → 1 ≤ hs → hs < s.cfg.timing.tListenResync →
    cellsCarry s.cfg.timing cells (bs.flatMap bitsMsb) = true →
    s.cfg.timing.tBitLowMin ≤ sl → sl < s.cfg.timing.tBitLowMax →
    s.env = List.replicate g false ++ cellWave (ls, hs) ++ cellsWave cells ++
      cellWave (sl, s.cfg.timing.tBitHighMax) ++ rest →
    ∃ t, exec (listenOf a r) s = .next t ∧ Aborted .listenShort t ∧ t.ids = s.ids ∧ ingestedOnly s t s.regs ∧
      t.lineOut = s.lineOut ∧ t.tx.len = bs.length

/-- A Listen without a start bit, or with one that falls `T_LISTEN_START` after the origin of Tlt or later, aborts with
`LISTEN_START`, a fall at exactly that tick included (R69's tie rule); a start bit whose low or high is too long aborts
with `LISTEN_RESYNC` (R92). -/
def Obligations.ListenWindowErrors : Prop :=
  ∀ (s : State) (a : BusAddr) (k : DevClass) (r : RegNum),
    s.atTltStart → s.matchClass a = some k →
    (s.quiet → ∃ t, exec (listenOf a r) s = .next t ∧ Aborted .listenStart t ∧ t.ids = s.ids ∧
      ingestedOnly s t s.regs ∧ t.lineOut = s.lineOut) ∧
    (s.slack ≤ s.cfg.pollGap → ∀ (g : Nat) (rest : List Bool),
      s.cfg.timing.tListenStart * s.cfg.coarseRatio ≤ g → s.env = List.replicate g false ++ true :: rest →
      ∃ t, exec (listenOf a r) s = .next t ∧ Aborted .listenStart t ∧ t.ids = s.ids ∧ ingestedOnly s t s.regs ∧
        t.lineOut = s.lineOut ∧
        (s.gaps = [] → t.now = s.now + s.cfg.timing.tListenStart * s.cfg.coarseRatio)) ∧
    (s.gaps = [] → ∀ (g ls hs : Nat) (rest : List Bool),
      g < s.cfg.timing.tListenStart * s.cfg.coarseRatio → 1 ≤ ls → 1 ≤ hs →
      s.env = List.replicate g false ++ cellWave (ls, hs) ++ rest →
      (s.cfg.timing.tListenResync ≤ ls ∨ s.cfg.timing.tListenResync ≤ hs) →
      ∃ t, exec (listenOf a r) s = .next t ∧ Aborted .listenResync t ∧ t.ids = s.ids ∧ ingestedOnly s t s.regs ∧
        t.lineOut = s.lineOut)

/-- Whatever the line does, a Listen never drives it; unless it ends as LISTEN_OK it writes no device state, and then
only the identity of its class (register 3) or arbitrary register 2 (the Listen rows' frame: R86, R116). -/
def Obligations.ListenFrame : Prop :=
  ∀ (s t : State) (a : BusAddr) (k : DevClass) (r : RegNum),
    s.drive = false → s.matchClass a = some k → exec (listenOf a r) s = .next t →
    t.cfg = s.cfg ∧ t.drive = false ∧ t.lineOut = s.lineOut ∧ t.tx.cmd = s.tx.cmd ∧
      t.tx.target = ClassMask.onehot k ∧ t.tx.reg = r ∧ t.tx.drainKbd = s.tx.drainKbd ∧
      t.tx.drainButtons = s.tx.drainButtons ∧ t.begun = s.begun ∧ t.resetEntry = s.resetEntry ∧
      (t.outcome ≠ .listenOk → t.ids = s.ids ∧ ingestedOnly s t s.regs) ∧
      (r ≠ 0b11#2 → t.ids = s.ids) ∧ (∀ j, j ≠ k → t.ids.get j = s.ids.get j) ∧
      (¬ (k = .arb ∧ r = 0b10#2) → ingestedOnly s t s.regs) ∧
      (s.ingestIn = [] → t.regs.kbd = s.regs.kbd ∧ t.regs.mouse = s.regs.mouse ∧
        t.regs.arb.r0buf = s.regs.arb.r0buf ∧ t.regs.arb.r0len = s.regs.arb.r0len ∧
        t.regs.arb.r0ready = s.regs.arb.r0ready)

/-- The identity-register update policy in the source's order: self-test, collision-ack, address 0, update; no other
register changes (R118). -/
def Obligations.IdentityUpdatePolicy : Prop :=
  ∀ (s : State) (k : DevClass) (b0 b1 : Byte),
    (s.identityUpdate k b0 b1).ids.get k =
      (if b1 = s.cfg.handlerSelftest then s.ids.get k
       else if b1 = s.cfg.handlerCollisionAck ∧ (s.ids.get k).collision = true then
        { s.ids.get k with collision := false }
       else if b0.extractLsb' 0 4 = 0#4 then s.ids.get k
       else
        { addr := b0.extractLsb' 0 4
          handler := if b1 ∈ s.cfg.acceptHandlers k then b1 else (s.ids.get k).handler
          collision := (s.ids.get k).collision }) ∧
    (∀ j, j ≠ k → (s.identityUpdate k b0 b1).ids.get j = s.ids.get j) ∧
    (s.identityUpdate k b0 b1) = { s with ids := (s.identityUpdate k b0 b1).ids }

/-! ## Rules about the whole machine -/

/-- Every command ends its transaction: back in IDLE, the line released, whatever the line and INGEST do (R77, R143,
R144). -/
def Obligations.CommandEndsReleased : Prop :=
  ∀ (i : Instr) (s : State), ∃ t, exec i s = .next t ∧ t.state = .idle ∧ t.drive = false ∧ t.cfg = s.cfg ∧
    t.outcome ≠ .none ∧ t.outcome ≠ .reset ∧ t.outcome ≠ .spurious ∧ (∀ e, t.outcome = .error e → t.tx.err = e)

/-- `raise`: the error record, outcome ERROR, the line released and IDLE, in one step; nothing else is written (R143). -/
def Obligations.AbortWritesOnly : Prop :=
  ∀ (s : State) (e : Err),
    s.raiseErr e =
      { s with
        tx := { s.tx with err := e }
        outcome := .error e
        drive := false
        state := .idle
        lineOut := if s.drive = true then (s.now, false) :: s.lineOut else s.lineOut }

/-- Addresses and handlers change only through a successful Listen of register 3 or a device reset (R21, R128). -/
def Obligations.IdentityChangesOnlyByListenR3OrReset : Prop :=
  ∀ s t : State, s.Inv → step s = .next t →
    (∀ k, (t.ids.get k).addr = (s.ids.get k).addr ∧ (t.ids.get k).handler = (s.ids.get k).handler) ∨
    (s.state = .classify ∧ t.outcome = .reset ∧ t.state = .idle) ∨ (s.resetEntry = true ∧ s.begun = false) ∨
    (s.state = .dispatch ∧ t.outcome = .listenOk ∧ ∃ a, s.fetched = .listenR3 a)

/-- The collision flag is set only by a collision in a Talk of register 3 to its class, and cleared only by a Listen of
register 3 to its class or a device reset; flush leaves it (R119). -/
def Obligations.CollisionFlagWriters : Prop :=
  ∀ (s t : State) (k : DevClass), s.Inv → step s = .next t →
    ((s.ids.get k).collision = false → (t.ids.get k).collision = true →
      s.state = .dispatch ∧ ∃ a e, s.fetched = .talkR3 a ∧ s.matchClass a = some k ∧ t.outcome = .error e ∧
        e.cls = .collision) ∧
    ((s.ids.get k).collision = true → (t.ids.get k).collision = false →
      (s.state = .classify ∧ t.outcome = .reset ∧ t.state = .idle) ∨ (s.resetEntry = true ∧ s.begun = false) ∨
      (s.state = .dispatch ∧ t.outcome = .listenOk ∧ ∃ a, s.fetched = .listenR3 a ∧ s.matchClass a = some k))

/-- Before DISPATCH only INGEST writes the register file and nothing writes an identity, but for the device reset of a
CLASSIFY that ends in RESET; for every spacing of polls (R39, R78, R79, R80, R81, R84). -/
def Obligations.EarlyPhasesLeaveDevicesToIngest : Prop :=
  ∀ s t : State, noPowerOnDue s → step s = .next t →
    s.state = .idle ∨ s.state = .classify ∨ s.state = .sync ∨ s.state = .command ∨ s.state = .srq →
    (t.ids = s.ids ∧ ingestedOnly s t s.regs) ∨
      (s.state = .classify ∧ t.outcome = .reset ∧ t.state = .idle ∧ AfterDeviceReset s t)

/-! ## Keyboard buffer and ingest port (44_keyboard_buffer.md, 45_ingest_port.md) -/

/-- `kb_push_single` and `kb_push_pair` on the queue's entries; neither moves the head or writes register 2 (R122, R123,
R124, R133). -/
def Obligations.KeyboardPushes : Prop :=
  ∀ (k : Keyboard) (x y : Byte), k.size ≤ 16 →
    (if k.size = 16 then k.pushSingle x = (k, .dropped)
     else (k.pushSingle x).2 = .ok ∧ (k.pushSingle x).1.entries = k.entries ++ [x] ∧
      (k.pushSingle x).1.head = k.head ∧ (k.pushSingle x).1.r2hi = k.r2hi ∧ (k.pushSingle x).1.r2lo = k.r2lo) ∧
    (if 16 - k.size < (if k.size % 2 = 1 then 3 else 2) then k.pushPair x y = (k, .refused)
     else (k.pushPair x y).2 = .ok ∧
      (k.pushPair x y).1.entries = k.entries ++ (if k.size % 2 = 1 then [0xFF#8, x, y] else [x, y]) ∧
      (k.pushPair x y).1.head = k.head ∧ (k.pushPair x y).1.r2hi = k.r2hi ∧ (k.pushPair x y).1.r2lo = k.r2lo)

/-- `kb_peek_pair` and `kb_drain` on the queue's entries (R125, R126). -/
def Obligations.KeyboardPeekAndDrain : Prop :=
  ∀ (k : Keyboard) (n : Nat), k.size ≤ 16 →
    k.peekPair = (match k.entries with
      | [] => 0xFFFF#16
      | [x] => x ++ 0xFF#8
      | x :: y :: _ => x ++ y) ∧
    (if k.size < min n 2 then k.drain n = k
     else (k.drain n).entries = k.entries.drop (min n 2) ∧ (k.drain n).kq = k.kq ∧
      (k.drain n).head.toNat = (k.head.toNat + min n 2) % 16)

/-- `KBD_PUSH_SINGLE` and `KBD_PUSH_PAIR` run the buffer's operations and return their results (R131, R132). -/
def Obligations.IngestPushesRunBufferOperations : Prop :=
  ∀ (c : Config) (r : RegFile) (x y : Byte), c.present .kbd = true →
    r.ingest c (.kbdPushSingle x) = ({ r with kbd := (r.kbd.pushSingle x).1 }, (r.kbd.pushSingle x).2) ∧
    r.ingest c (.kbdPushPair x y) = ({ r with kbd := (r.kbd.pushPair x y).1 }, (r.kbd.pushPair x y).2)

/-- A Listen's value for arbitrary register 2 and `ARB_WRITE_R2` have the same effect: the value and the set flag
(R117, R138). -/
def Obligations.ArbitraryRegister2WrittenAlike : Prop :=
  ∀ (s : State) (v : Word16), s.cfg.present .arb = true →
    s.listenReg .arb 0b10#2 v = { s with regs := (s.regs.ingest s.cfg (.arbWriteR2 v)).1 } ∧
    (s.regs.ingest s.cfg (.arbWriteR2 v)).1 =
      { s.regs with arb := { s.regs.arb with r2val := v, r2set := true } } ∧
    (s.regs.ingest s.cfg (.arbWriteR2 v)).2 = .ok

/-- An operation on an absent class (`KBD_*` on KBD, `MOUSE_*` on MOUSE, `ARB_*` on ARB), or with an operand outside its
range, is refused and changes nothing; a load of register 0 is refused while one is pending (R129, R136). -/
def Obligations.IngestRefusals : Prop :=
  ∀ (c : Config) (r : RegFile),
    (c.present .kbd = false →
      (∀ x, r.ingest c (.kbdPushSingle x) = (r, .refused)) ∧ (∀ x y, r.ingest c (.kbdPushPair x y) = (r, .refused)) ∧
      (∀ v, r.ingest c (.kbdSetR2 v) = (r, .refused))) ∧
    (c.present .mouse = false →
      (∀ dx dy, r.ingest c (.mouseMove dx dy) = (r, .refused)) ∧ (∀ b, r.ingest c (.mouseButtons b) = (r, .refused))) ∧
    (c.present .arb = false →
      (∀ d, r.ingest c (.arbLoadR0 d) = (r, .refused)) ∧ r.ingest c .arbR0Status = (r, .refused) ∧
      (∀ v, r.ingest c (.arbWriteR2 v) = (r, .refused)) ∧ r.ingest c .arbReadR2 = (r, .refused)) ∧
    (∀ b, 4 ≤ b → r.ingest c (.mouseButtons b) = (r, .refused)) ∧
    (∀ d, d.length < 1 ∨ 8 < d.length ∨ r.arb.r0ready = true → r.ingest c (.arbLoadR0 d) = (r, .refused))

/-- The effects of the accepted keyboard register 2, mouse and arbitrary operations (R133 to R139). -/
def Obligations.IngestEffects : Prop :=
  ∀ (c : Config) (r : RegFile),
    (c.present .kbd = true → ∀ v : Word16,
      r.ingest c (.kbdSetR2 v) =
        ({ r with kbd := { r.kbd with r2hi := v.extractLsb' 8 8, r2lo := v.extractLsb' 0 8 } }, .ok)) ∧
    (c.present .mouse = true → ∀ dx dy : BitVec 16,
      r.ingest c (.mouseMove dx dy) =
        ({ r with mouse := { r.mouse with
            accX := min (max (r.mouse.accX + dx.toInt) c.mouseAccMin) c.mouseAccMax
            accY := min (max (r.mouse.accY + dy.toInt) c.mouseAccMin) c.mouseAccMax } }, .ok)) ∧
    (c.present .mouse = true → ∀ b, b < 4 →
      r.ingest c (.mouseButtons b) = ({ r with mouse := { r.mouse with curButtons := BitVec.ofNat 2 b } }, .ok)) ∧
    (c.present .arb = true → ∀ d : List Byte, 1 ≤ d.length → d.length ≤ 8 → r.arb.r0ready = false →
      ∃ buf : Vector Byte 8, buf.toList = d ++ List.replicate (8 - d.length) 0#8 ∧
        r.ingest c (.arbLoadR0 d) =
          ({ r with arb := { r.arb with r0buf := buf, r0len := d.length, r0ready := true } }, .ok)) ∧
    (c.present .arb = true → ∀ v,
      r.ingest c (.arbWriteR2 v) = ({ r with arb := { r.arb with r2val := v, r2set := true } }, .ok)) ∧
    (c.present .arb = true → r.ingest c .arbReadR2 = (r, .r2 r.arb.r2set r.arb.r2val)) ∧
    (c.present .arb = true → r.ingest c .arbR0Status = (r, .status r.arb.r0ready))

/-! ## Counter, waits and transport (40_signal_and_bit_transport.md) -/

/-- The counter: `floor((now − t0) / r_ticks) mod 256` while it runs, 0 before a start and after a stop (R65, R66,
R67). -/
def Obligations.CounterFollowsTime : Prop :=
  ∀ (s : State) (r : Res) (d : Nat),
    ((s.startTimerNow r).advance d).count.toNat = d / s.cfg.rTicks r % 256 ∧
    (s.timer.running = false → s.count = 0#8) ∧
    s.timerStop.2 = s.count ∧ s.timerStop.1.count = 0#8 ∧ s.timerStop.1.timer.running = false

/-- A wait for a level the line takes `d` fine ticks after the timer's start measures `d` up to the poll gap:
`floor(d / r) ≤ e ≤ floor((d + POLL_GAP − 1) / r)`, for every poll spacing (R69, R165); the same where the line is at
the level as the wait begins, `d` ticks after the timer's start, be it at the start itself or at CORE's own release. That
second clause rests on the model's choice of spacings, DEDUCED in notes/assumptions/25: `State.waitDue` holds the first
poll to R165's bound where R68 alone would let it come `POLL_GAP` later. A wait without ingest points performs no ingest
operation and gives no result on the port (R72, R166). -/
def Obligations.WaitMeasuresInterval : Prop :=
  (∀ (s : State) (lvl ing : Bool) (res : Res) (T d m : Nat) (rest : List Bool),
    s.cfg.wf = true → s.drive = false → s.slack ≤ s.cfg.pollGap → 1 ≤ d → s.cfg.pollGap ≤ m → T ≤ 255 →
    (d + s.cfg.pollGap - 1) / s.cfg.rTicks res < T →
    s.env = List.replicate d (!lvl) ++ List.replicate m lvl ++ rest →
    ∃ t e, pollUntil lvl T ing (s.startTimerNow res) = (t, e) ∧ t.line = lvl ∧
      d / s.cfg.rTicks res ≤ e ∧ e ≤ (d + s.cfg.pollGap - 1) / s.cfg.rTicks res ∧
      (ing = false → t.ingestIn = s.ingestIn ∧ t.regs = s.regs ∧ t.ingestOut = s.ingestOut)) ∧
  (∀ (s : State) (lvl ing : Bool) (res : Res) (T d t0 m : Nat) (rest : List Bool),
    s.cfg.wf = true → s.drive = false → s.slack ≤ s.cfg.pollGap → s.timer = ⟨res, t0, true⟩ → s.now = t0 + d →
    s.cfg.pollGap < m → (d + s.cfg.pollGap - 1) / s.cfg.rTicks res ≤ 255 → s.env = List.replicate m lvl ++ rest →
    ∃ t e, pollUntil lvl T ing s = (t, e) ∧ t.line = lvl ∧
      d / s.cfg.rTicks res ≤ e ∧ e ≤ (d + s.cfg.pollGap - 1) / s.cfg.rTicks res ∧
      (ing = false → t.ingestIn = s.ingestIn ∧ t.regs = s.regs ∧ t.ingestOut = s.ingestOut))

/-- Waits and holds end by the counter, for every spacing. A wait for a level the line does not take returns a count of
at least `T` read at its last poll. Whatever the line does, a wait under W7 returns the elapsed ticks at its last poll
and no wrapped count (R69, R152). A hold ends at a poll with `count ≥ H`, at `t0 + H·r_ticks` or at most `POLL_GAP − 1`
fine ticks later, also where a drive change stands between the timer's start and its first poll (R71). The bounds on the first poll are
the model's choice of spacings, DEDUCED in notes/assumptions/25. -/
def Obligations.WaitTimesOut : Prop :=
  (∀ (s : State) (ing : Bool) (res : Res) (T : Nat),
    s.cfg.wf = true → s.drive = false → s.slack ≤ s.cfg.pollGap → s.quiet →
    1 ≤ T → T - 1 + (s.cfg.pollGap + s.cfg.rTicks res - 1) / s.cfg.rTicks res ≤ 255 →
    ∃ t e, pollUntil true T ing (s.startTimerNow res) = (t, e) ∧ T ≤ e ∧ e = t.ticks ∧ t.line = false ∧
      t.now - s.now < T * s.cfg.rTicks res + s.cfg.pollGap) ∧
  (∀ (s : State) (lvl ing : Bool) (res : Res) (T : Nat),
    s.cfg.wf = true → s.slack ≤ s.cfg.pollGap →
    1 ≤ T → T - 1 + (s.cfg.pollGap + s.cfg.rTicks res - 1) / s.cfg.rTicks res ≤ 255 →
    ∃ t e, pollUntil lvl T ing (s.startTimerNow res) = (t, e) ∧ e = (t.now - s.now) / s.cfg.rTicks res ∧ e ≤ 255) ∧
  (∀ (s : State) (ing : Bool) (H t0 : Nat) (res : Res),
    s.cfg.wf = true → s.slack ≤ s.cfg.pollGap → s.timer = ⟨res, t0, true⟩ → t0 ≤ s.now →
    1 ≤ H → H - 1 + (s.cfg.pollGap + s.cfg.rTicks res - 1) / s.cfg.rTicks res ≤ 255 →
    s.now ≤ t0 + H * s.cfg.rTicks res + (s.cfg.pollGap - 1) →
    ∃ t, holdUntil H ing s = t ∧ H ≤ t.ticks ∧ t0 + H * s.cfg.rTicks res ≤ t.now ∧
      t.now ≤ t0 + H * s.cfg.rTicks res + (s.cfg.pollGap - 1) ∧ t.drive = s.drive ∧ t.lineOut = s.lineOut)

/-- `WriteBit` on a line no one else drives: low and high for the bit's durations, no error (R73, R171). -/
def Obligations.WriteBitOnQuietLine : Prop :=
  ∀ (s : State) (b : Bool), s.cfg.wf = true → s.drive = false → s.gaps = [] → s.quiet →
    ∃ t, writeBit b s = (t, .none) ∧ t.drive = false ∧
      t.lineOut =
        (s.now + (if b then s.cfg.timing.tBitShort else s.cfg.timing.tBitLong), false) :: (s.now, true) :: s.lineOut ∧
      t.now = s.now + (s.cfg.timing.tBitShort + s.cfg.timing.tBitLong)

/-- `WriteBit` collides: with the line already low it never drives; with the line low `j` ticks into the high hold, or
still low at the release (`j = 0`), it stops there. During its own low time it sees nothing (R73, R145). -/
def Obligations.WriteBitCollisions : Prop :=
  ∀ (s : State) (b : Bool), s.cfg.wf = true → s.drive = false → s.gaps = [] →
    (s.envNow = true → ∃ t, writeBit b s = (t, .wbPre) ∧ t.drive = false ∧ t.lineOut = s.lineOut) ∧
    (∀ (during rest : List Bool) (j : Nat),
      s.env = false :: during ++ List.replicate j false ++ true :: rest →
      during.length + 1 = (if b then s.cfg.timing.tBitShort else s.cfg.timing.tBitLong) →
      j < (if b then s.cfg.timing.tBitLong else s.cfg.timing.tBitShort) →
      ∃ t, writeBit b s = (t, .wbHigh) ∧ t.drive = false ∧ t.now = s.now + during.length + 1 + j ∧
        t.lineOut = (s.now + during.length + 1, false) :: (s.now, true) :: s.lineOut)

/-- The class and code numbers of the error record (R142; the numbers are the spec's choice D12). -/
def Obligations.ErrorNumbers : Prop :=
  Err.record .none = (0, 0) ∧ Err.record .syncWindow = (1, 1) ∧ Err.record .rbLowLong = (2, 1) ∧
  Err.record .rbLowShort = (2, 2) ∧ Err.record .rbHighLong = (2, 3) ∧ Err.record .srqReleased = (2, 4) ∧
  Err.record .srqCeil = (2, 5) ∧ Err.record .listenStart = (2, 6) ∧ Err.record .listenResync = (2, 7) ∧
  Err.record .listenShort = (2, 8) ∧ Err.record .talkTransport = (2, 9) ∧ Err.record .tlt = (3, 1) ∧
  Err.record .wbPre = (3, 2) ∧ Err.record .wbHigh = (3, 3)
end

