-- ==== Sys2Proof/Laws/PerInstr.lean ====
section
/-!
SUPPORT. Facts about the command as syntax, one lemma per constructor: the address operand of a command stands in the
upper nibble of its byte (R55).
-/

namespace Sys2Proof.Laws.AddressField

/-- `cmd[7:4]` of the encoded command is its address operand. -/
def Statement (i : Instr) : Prop := fieldA (encodeByte i) = i.addr

theorem talkR0 (a : BusAddr) : Statement (.talkR0 a) := by revert a; unfold Statement; decide
theorem talkR1 (a : BusAddr) : Statement (.talkR1 a) := by revert a; unfold Statement; decide
theorem talkR2 (a : BusAddr) : Statement (.talkR2 a) := by revert a; unfold Statement; decide
theorem talkR3 (a : BusAddr) : Statement (.talkR3 a) := by revert a; unfold Statement; decide
theorem listenR0 (a : BusAddr) : Statement (.listenR0 a) := by revert a; unfold Statement; decide
theorem listenR1 (a : BusAddr) : Statement (.listenR1 a) := by revert a; unfold Statement; decide
theorem listenR2 (a : BusAddr) : Statement (.listenR2 a) := by revert a; unfold Statement; decide
theorem listenR3 (a : BusAddr) : Statement (.listenR3 a) := by revert a; unfold Statement; decide
theorem flush (a : BusAddr) : Statement (.flush a) := by revert a; unfold Statement; decide
theorem rsv0 (a : BusAddr) : Statement (.rsv0 a) := by revert a; unfold Statement; decide
theorem rsv2 (a : BusAddr) : Statement (.rsv2 a) := by revert a; unfold Statement; decide
theorem rsv3 (a : BusAddr) : Statement (.rsv3 a) := by revert a; unfold Statement; decide
theorem rsv4 (a : BusAddr) (r : RegNum) : Statement (.rsv4 a r) := by revert a r; unfold Statement; decide

end Sys2Proof.Laws.AddressField
end

