-- ==== Sys2Proof/Laws/State.lean ====
section
/-!
SUPPORT. One lemma per field of the state for each named update, so that no proof unfolds a record update; and the
access laws of the identities by class.
-/

namespace Sys2Proof.Machine

variable (s : State)

/-! ## `State.advance` -/

@[simp] theorem State.advance_cfg (g : Nat) : (s.advance g).cfg = s.cfg := rfl
@[simp] theorem State.advance_state (g : Nat) : (s.advance g).state = s.state := rfl
@[simp] theorem State.advance_tx (g : Nat) : (s.advance g).tx = s.tx := rfl
@[simp] theorem State.advance_outcome (g : Nat) : (s.advance g).outcome = s.outcome := rfl
@[simp] theorem State.advance_drive (g : Nat) : (s.advance g).drive = s.drive := rfl
@[simp] theorem State.advance_timer (g : Nat) : (s.advance g).timer = s.timer := rfl
@[simp] theorem State.advance_ids (g : Nat) : (s.advance g).ids = s.ids := rfl
@[simp] theorem State.advance_regs (g : Nat) : (s.advance g).regs = s.regs := rfl
@[simp] theorem State.advance_begun (g : Nat) : (s.advance g).begun = s.begun := rfl
@[simp] theorem State.advance_resetEntry (g : Nat) : (s.advance g).resetEntry = s.resetEntry := rfl
@[simp] theorem State.advance_now (g : Nat) : (s.advance g).now = s.now + g := rfl
@[simp] theorem State.advance_env (g : Nat) : (s.advance g).env = s.env.drop g := rfl
@[simp] theorem State.advance_gaps (g : Nat) : (s.advance g).gaps = s.gaps := rfl
@[simp] theorem State.advance_slack (g : Nat) : (s.advance g).slack = s.slack - g := rfl
@[simp] theorem State.advance_fromPoll (g : Nat) : (s.advance g).fromPoll = s.fromPoll := rfl
@[simp] theorem State.advance_polledNow (g : Nat) : (s.advance g).polledNow = (s.polledNow && g == 0) := rfl
@[simp] theorem State.advance_ingestedNow (g : Nat) : (s.advance g).ingestedNow = (s.ingestedNow && g == 0) := rfl
@[simp] theorem State.advance_ingestIn (g : Nat) : (s.advance g).ingestIn = s.ingestIn := rfl
@[simp] theorem State.advance_ingestOut (g : Nat) : (s.advance g).ingestOut = s.ingestOut := rfl
@[simp] theorem State.advance_lineOut (g : Nat) : (s.advance g).lineOut = s.lineOut := rfl

/-! ## `State.passTime` -/

@[simp] theorem State.passTime_cfg (g : Nat) : (s.passTime g).cfg = s.cfg := rfl
@[simp] theorem State.passTime_state (g : Nat) : (s.passTime g).state = s.state := rfl
@[simp] theorem State.passTime_tx (g : Nat) : (s.passTime g).tx = s.tx := rfl
@[simp] theorem State.passTime_outcome (g : Nat) : (s.passTime g).outcome = s.outcome := rfl
@[simp] theorem State.passTime_drive (g : Nat) : (s.passTime g).drive = s.drive := rfl
@[simp] theorem State.passTime_timer (g : Nat) : (s.passTime g).timer = s.timer := rfl
@[simp] theorem State.passTime_ids (g : Nat) : (s.passTime g).ids = s.ids := rfl
@[simp] theorem State.passTime_regs (g : Nat) : (s.passTime g).regs = s.regs := rfl
@[simp] theorem State.passTime_begun (g : Nat) : (s.passTime g).begun = s.begun := rfl
@[simp] theorem State.passTime_resetEntry (g : Nat) : (s.passTime g).resetEntry = s.resetEntry := rfl
@[simp] theorem State.passTime_now (g : Nat) : (s.passTime g).now = s.now + g := rfl
@[simp] theorem State.passTime_env (g : Nat) : (s.passTime g).env = s.env.drop g := rfl
@[simp] theorem State.passTime_gaps (g : Nat) : (s.passTime g).gaps = s.gaps.tail := rfl
@[simp] theorem State.passTime_slack (g : Nat) : (s.passTime g).slack = s.slack - g := rfl
@[simp] theorem State.passTime_fromPoll (g : Nat) : (s.passTime g).fromPoll = s.fromPoll := rfl
@[simp] theorem State.passTime_polledNow (g : Nat) : (s.passTime g).polledNow = (s.polledNow && g == 0) := rfl
@[simp] theorem State.passTime_ingestedNow (g : Nat) : (s.passTime g).ingestedNow =
    (s.ingestedNow && g == 0) := rfl
@[simp] theorem State.passTime_ingestIn (g : Nat) : (s.passTime g).ingestIn = s.ingestIn := rfl
@[simp] theorem State.passTime_ingestOut (g : Nat) : (s.passTime g).ingestOut = s.ingestOut := rfl
@[simp] theorem State.passTime_lineOut (g : Nat) : (s.passTime g).lineOut = s.lineOut := rfl

/-! ## `State.toEvent` -/

@[simp] theorem State.toEvent_cfg : (s.toEvent).cfg = s.cfg := rfl
@[simp] theorem State.toEvent_state : (s.toEvent).state = s.state := rfl
@[simp] theorem State.toEvent_tx : (s.toEvent).tx = s.tx := rfl
@[simp] theorem State.toEvent_outcome : (s.toEvent).outcome = s.outcome := rfl
@[simp] theorem State.toEvent_drive : (s.toEvent).drive = s.drive := rfl
@[simp] theorem State.toEvent_timer : (s.toEvent).timer = s.timer := rfl
@[simp] theorem State.toEvent_ids : (s.toEvent).ids = s.ids := rfl
@[simp] theorem State.toEvent_regs : (s.toEvent).regs = s.regs := rfl
@[simp] theorem State.toEvent_begun : (s.toEvent).begun = s.begun := rfl
@[simp] theorem State.toEvent_resetEntry : (s.toEvent).resetEntry = s.resetEntry := rfl
@[simp] theorem State.toEvent_now : (s.toEvent).now = s.now + s.eventGap := rfl
@[simp] theorem State.toEvent_env : (s.toEvent).env = s.env.drop s.eventGap := rfl
@[simp] theorem State.toEvent_gaps : (s.toEvent).gaps = s.gaps.tail := rfl
@[simp] theorem State.toEvent_slack : (s.toEvent).slack = s.slack - s.eventGap := rfl
@[simp] theorem State.toEvent_fromPoll : (s.toEvent).fromPoll = s.fromPoll := rfl
@[simp] theorem State.toEvent_polledNow : (s.toEvent).polledNow = (s.polledNow && s.eventGap == 0) := rfl
@[simp] theorem State.toEvent_ingestedNow : (s.toEvent).ingestedNow = (s.ingestedNow && s.eventGap == 0) := rfl
@[simp] theorem State.toEvent_ingestIn : (s.toEvent).ingestIn = s.ingestIn := rfl
@[simp] theorem State.toEvent_ingestOut : (s.toEvent).ingestOut = s.ingestOut := rfl
@[simp] theorem State.toEvent_lineOut : (s.toEvent).lineOut = s.lineOut := rfl

/-! ## `State.toPoll` -/

@[simp] theorem State.toPoll_cfg (ref : Nat) : (s.toPoll ref).cfg = s.cfg := rfl
@[simp] theorem State.toPoll_state (ref : Nat) : (s.toPoll ref).state = s.state := rfl
@[simp] theorem State.toPoll_tx (ref : Nat) : (s.toPoll ref).tx = s.tx := rfl
@[simp] theorem State.toPoll_outcome (ref : Nat) : (s.toPoll ref).outcome = s.outcome := rfl
@[simp] theorem State.toPoll_drive (ref : Nat) : (s.toPoll ref).drive = s.drive := rfl
@[simp] theorem State.toPoll_timer (ref : Nat) : (s.toPoll ref).timer = s.timer := rfl
@[simp] theorem State.toPoll_ids (ref : Nat) : (s.toPoll ref).ids = s.ids := rfl
@[simp] theorem State.toPoll_regs (ref : Nat) : (s.toPoll ref).regs = s.regs := rfl
@[simp] theorem State.toPoll_begun (ref : Nat) : (s.toPoll ref).begun = s.begun := rfl
@[simp] theorem State.toPoll_resetEntry (ref : Nat) : (s.toPoll ref).resetEntry = s.resetEntry := rfl
@[simp] theorem State.toPoll_now (ref : Nat) : (s.toPoll ref).now = s.now + s.pollGapFrom ref := rfl
@[simp] theorem State.toPoll_env (ref : Nat) : (s.toPoll ref).env = s.env.drop (s.pollGapFrom ref) := rfl
@[simp] theorem State.toPoll_gaps (ref : Nat) : (s.toPoll ref).gaps = s.gaps.tail := rfl
@[simp] theorem State.toPoll_slack (ref : Nat) : (s.toPoll ref).slack = s.slack - s.pollGapFrom ref := rfl
@[simp] theorem State.toPoll_fromPoll (ref : Nat) : (s.toPoll ref).fromPoll = s.fromPoll := rfl
@[simp] theorem State.toPoll_polledNow (ref : Nat) : (s.toPoll ref).polledNow =
    (s.polledNow && s.pollGapFrom ref == 0) := rfl
@[simp] theorem State.toPoll_ingestedNow (ref : Nat) : (s.toPoll ref).ingestedNow =
    (s.ingestedNow && s.pollGapFrom ref == 0) := rfl
@[simp] theorem State.toPoll_ingestIn (ref : Nat) : (s.toPoll ref).ingestIn = s.ingestIn := rfl
@[simp] theorem State.toPoll_ingestOut (ref : Nat) : (s.toPoll ref).ingestOut = s.ingestOut := rfl
@[simp] theorem State.toPoll_lineOut (ref : Nat) : (s.toPoll ref).lineOut = s.lineOut := rfl

/-! ## `State.dueBy` -/

@[simp] theorem State.dueBy_cfg (t : Nat) : (s.dueBy t).cfg = s.cfg := rfl
@[simp] theorem State.dueBy_state (t : Nat) : (s.dueBy t).state = s.state := rfl
@[simp] theorem State.dueBy_tx (t : Nat) : (s.dueBy t).tx = s.tx := rfl
@[simp] theorem State.dueBy_outcome (t : Nat) : (s.dueBy t).outcome = s.outcome := rfl
@[simp] theorem State.dueBy_drive (t : Nat) : (s.dueBy t).drive = s.drive := rfl
@[simp] theorem State.dueBy_timer (t : Nat) : (s.dueBy t).timer = s.timer := rfl
@[simp] theorem State.dueBy_ids (t : Nat) : (s.dueBy t).ids = s.ids := rfl
@[simp] theorem State.dueBy_regs (t : Nat) : (s.dueBy t).regs = s.regs := rfl
@[simp] theorem State.dueBy_begun (t : Nat) : (s.dueBy t).begun = s.begun := rfl
@[simp] theorem State.dueBy_resetEntry (t : Nat) : (s.dueBy t).resetEntry = s.resetEntry := rfl
@[simp] theorem State.dueBy_now (t : Nat) : (s.dueBy t).now = s.now := rfl
@[simp] theorem State.dueBy_env (t : Nat) : (s.dueBy t).env = s.env := rfl
@[simp] theorem State.dueBy_gaps (t : Nat) : (s.dueBy t).gaps = s.gaps := rfl
@[simp] theorem State.dueBy_slack (t : Nat) : (s.dueBy t).slack = min s.slack (t - s.now) := rfl
@[simp] theorem State.dueBy_fromPoll (t : Nat) : (s.dueBy t).fromPoll = s.fromPoll := rfl
@[simp] theorem State.dueBy_polledNow (t : Nat) : (s.dueBy t).polledNow = s.polledNow := rfl
@[simp] theorem State.dueBy_ingestedNow (t : Nat) : (s.dueBy t).ingestedNow = s.ingestedNow := rfl
@[simp] theorem State.dueBy_ingestIn (t : Nat) : (s.dueBy t).ingestIn = s.ingestIn := rfl
@[simp] theorem State.dueBy_ingestOut (t : Nat) : (s.dueBy t).ingestOut = s.ingestOut := rfl
@[simp] theorem State.dueBy_lineOut (t : Nat) : (s.dueBy t).lineOut = s.lineOut := rfl

/-! ## `State.markPoll` -/

@[simp] theorem State.markPoll_cfg : (s.markPoll).cfg = s.cfg := rfl
@[simp] theorem State.markPoll_state : (s.markPoll).state = s.state := rfl
@[simp] theorem State.markPoll_tx : (s.markPoll).tx = s.tx := rfl
@[simp] theorem State.markPoll_outcome : (s.markPoll).outcome = s.outcome := rfl
@[simp] theorem State.markPoll_drive : (s.markPoll).drive = s.drive := rfl
@[simp] theorem State.markPoll_timer : (s.markPoll).timer = s.timer := rfl
@[simp] theorem State.markPoll_ids : (s.markPoll).ids = s.ids := rfl
@[simp] theorem State.markPoll_regs : (s.markPoll).regs = s.regs := rfl
@[simp] theorem State.markPoll_begun : (s.markPoll).begun = s.begun := rfl
@[simp] theorem State.markPoll_resetEntry : (s.markPoll).resetEntry = s.resetEntry := rfl
@[simp] theorem State.markPoll_now : (s.markPoll).now = s.now := rfl
@[simp] theorem State.markPoll_env : (s.markPoll).env = s.env := rfl
@[simp] theorem State.markPoll_gaps : (s.markPoll).gaps = s.gaps := rfl
@[simp] theorem State.markPoll_slack : (s.markPoll).slack = s.cfg.pollGap := rfl
@[simp] theorem State.markPoll_fromPoll : (s.markPoll).fromPoll = true := rfl
@[simp] theorem State.markPoll_polledNow : (s.markPoll).polledNow = true := rfl
@[simp] theorem State.markPoll_ingestedNow : (s.markPoll).ingestedNow = s.ingestedNow := rfl
@[simp] theorem State.markPoll_ingestIn : (s.markPoll).ingestIn = s.ingestIn := rfl
@[simp] theorem State.markPoll_ingestOut : (s.markPoll).ingestOut = s.ingestOut := rfl
@[simp] theorem State.markPoll_lineOut : (s.markPoll).lineOut = s.lineOut := rfl

/-! ## `State.markDrive` -/

@[simp] theorem State.markDrive_cfg : (s.markDrive).cfg = s.cfg := rfl
@[simp] theorem State.markDrive_state : (s.markDrive).state = s.state := rfl
@[simp] theorem State.markDrive_tx : (s.markDrive).tx = s.tx := rfl
@[simp] theorem State.markDrive_outcome : (s.markDrive).outcome = s.outcome := rfl
@[simp] theorem State.markDrive_drive : (s.markDrive).drive = s.drive := rfl
@[simp] theorem State.markDrive_timer : (s.markDrive).timer = s.timer := rfl
@[simp] theorem State.markDrive_ids : (s.markDrive).ids = s.ids := rfl
@[simp] theorem State.markDrive_regs : (s.markDrive).regs = s.regs := rfl
@[simp] theorem State.markDrive_begun : (s.markDrive).begun = s.begun := rfl
@[simp] theorem State.markDrive_resetEntry : (s.markDrive).resetEntry = s.resetEntry := rfl
@[simp] theorem State.markDrive_now : (s.markDrive).now = s.now := rfl
@[simp] theorem State.markDrive_env : (s.markDrive).env = s.env := rfl
@[simp] theorem State.markDrive_gaps : (s.markDrive).gaps = s.gaps := rfl
@[simp] theorem State.markDrive_slack : (s.markDrive).slack = s.cfg.pollGap := rfl
@[simp] theorem State.markDrive_fromPoll : (s.markDrive).fromPoll = false := rfl
@[simp] theorem State.markDrive_polledNow : (s.markDrive).polledNow = s.polledNow := rfl
@[simp] theorem State.markDrive_ingestedNow : (s.markDrive).ingestedNow = s.ingestedNow := rfl
@[simp] theorem State.markDrive_ingestIn : (s.markDrive).ingestIn = s.ingestIn := rfl
@[simp] theorem State.markDrive_ingestOut : (s.markDrive).ingestOut = s.ingestOut := rfl
@[simp] theorem State.markDrive_lineOut : (s.markDrive).lineOut = s.lineOut := rfl

/-! ## `State.setDrive` -/

@[simp] theorem State.setDrive_cfg (v : Bool) : (s.setDrive v).cfg = s.cfg := rfl
@[simp] theorem State.setDrive_state (v : Bool) : (s.setDrive v).state = s.state := rfl
@[simp] theorem State.setDrive_tx (v : Bool) : (s.setDrive v).tx = s.tx := rfl
@[simp] theorem State.setDrive_outcome (v : Bool) : (s.setDrive v).outcome = s.outcome := rfl
@[simp] theorem State.setDrive_drive (v : Bool) : (s.setDrive v).drive = v := rfl
@[simp] theorem State.setDrive_timer (v : Bool) : (s.setDrive v).timer = s.timer := rfl
@[simp] theorem State.setDrive_ids (v : Bool) : (s.setDrive v).ids = s.ids := rfl
@[simp] theorem State.setDrive_regs (v : Bool) : (s.setDrive v).regs = s.regs := rfl
@[simp] theorem State.setDrive_begun (v : Bool) : (s.setDrive v).begun = s.begun := rfl
@[simp] theorem State.setDrive_resetEntry (v : Bool) : (s.setDrive v).resetEntry = s.resetEntry := rfl
@[simp] theorem State.setDrive_now (v : Bool) : (s.setDrive v).now = s.now := rfl
@[simp] theorem State.setDrive_env (v : Bool) : (s.setDrive v).env = s.env := rfl
@[simp] theorem State.setDrive_gaps (v : Bool) : (s.setDrive v).gaps = s.gaps := rfl
@[simp] theorem State.setDrive_slack (v : Bool) : (s.setDrive v).slack = s.slack := rfl
@[simp] theorem State.setDrive_fromPoll (v : Bool) : (s.setDrive v).fromPoll = s.fromPoll := rfl
@[simp] theorem State.setDrive_polledNow (v : Bool) : (s.setDrive v).polledNow = s.polledNow := rfl
@[simp] theorem State.setDrive_ingestedNow (v : Bool) : (s.setDrive v).ingestedNow = s.ingestedNow := rfl
@[simp] theorem State.setDrive_ingestIn (v : Bool) : (s.setDrive v).ingestIn = s.ingestIn := rfl
@[simp] theorem State.setDrive_ingestOut (v : Bool) : (s.setDrive v).ingestOut = s.ingestOut := rfl
@[simp] theorem State.setDrive_lineOut (v : Bool) : (s.setDrive v).lineOut =
    if s.drive = v then s.lineOut else (s.now, v) :: s.lineOut := rfl

/-! ## `State.driveLine` -/

@[simp] theorem State.driveLine_cfg (v : Bool) : (s.driveLine v).cfg = s.cfg := rfl
@[simp] theorem State.driveLine_state (v : Bool) : (s.driveLine v).state = s.state := rfl
@[simp] theorem State.driveLine_tx (v : Bool) : (s.driveLine v).tx = s.tx := rfl
@[simp] theorem State.driveLine_outcome (v : Bool) : (s.driveLine v).outcome = s.outcome := rfl
@[simp] theorem State.driveLine_drive (v : Bool) : (s.driveLine v).drive = v := rfl
@[simp] theorem State.driveLine_timer (v : Bool) : (s.driveLine v).timer = s.timer := rfl
@[simp] theorem State.driveLine_ids (v : Bool) : (s.driveLine v).ids = s.ids := rfl
@[simp] theorem State.driveLine_regs (v : Bool) : (s.driveLine v).regs = s.regs := rfl
@[simp] theorem State.driveLine_begun (v : Bool) : (s.driveLine v).begun = s.begun := rfl
@[simp] theorem State.driveLine_resetEntry (v : Bool) : (s.driveLine v).resetEntry = s.resetEntry := rfl
@[simp] theorem State.driveLine_now (v : Bool) : (s.driveLine v).now = s.now + s.eventGap := rfl
@[simp] theorem State.driveLine_env (v : Bool) : (s.driveLine v).env = s.env.drop s.eventGap := rfl
@[simp] theorem State.driveLine_gaps (v : Bool) : (s.driveLine v).gaps = s.gaps.tail := rfl
@[simp] theorem State.driveLine_slack (v : Bool) : (s.driveLine v).slack = s.cfg.pollGap := rfl
@[simp] theorem State.driveLine_fromPoll (v : Bool) : (s.driveLine v).fromPoll = false := rfl
@[simp] theorem State.driveLine_polledNow (v : Bool) : (s.driveLine v).polledNow =
    (s.polledNow && s.eventGap == 0) := rfl
@[simp] theorem State.driveLine_ingestedNow (v : Bool) : (s.driveLine v).ingestedNow =
    (s.ingestedNow && s.eventGap == 0) := rfl
@[simp] theorem State.driveLine_ingestIn (v : Bool) : (s.driveLine v).ingestIn = s.ingestIn := rfl
@[simp] theorem State.driveLine_ingestOut (v : Bool) : (s.driveLine v).ingestOut = s.ingestOut := rfl
@[simp] theorem State.driveLine_lineOut (v : Bool) : (s.driveLine v).lineOut =
    if s.drive = v then s.lineOut else (s.now + s.eventGap, v) :: s.lineOut := rfl

/-! ## `State.startTimerNow` -/

@[simp] theorem State.startTimerNow_cfg (r : Res) : (s.startTimerNow r).cfg = s.cfg := rfl
@[simp] theorem State.startTimerNow_state (r : Res) : (s.startTimerNow r).state = s.state := rfl
@[simp] theorem State.startTimerNow_tx (r : Res) : (s.startTimerNow r).tx = s.tx := rfl
@[simp] theorem State.startTimerNow_outcome (r : Res) : (s.startTimerNow r).outcome = s.outcome := rfl
@[simp] theorem State.startTimerNow_drive (r : Res) : (s.startTimerNow r).drive = s.drive := rfl
@[simp] theorem State.startTimerNow_timer (r : Res) : (s.startTimerNow r).timer = ⟨r, s.now, true⟩ := rfl
@[simp] theorem State.startTimerNow_ids (r : Res) : (s.startTimerNow r).ids = s.ids := rfl
@[simp] theorem State.startTimerNow_regs (r : Res) : (s.startTimerNow r).regs = s.regs := rfl
@[simp] theorem State.startTimerNow_begun (r : Res) : (s.startTimerNow r).begun = s.begun := rfl
@[simp] theorem State.startTimerNow_resetEntry (r : Res) : (s.startTimerNow r).resetEntry = s.resetEntry := rfl
@[simp] theorem State.startTimerNow_now (r : Res) : (s.startTimerNow r).now = s.now := rfl
@[simp] theorem State.startTimerNow_env (r : Res) : (s.startTimerNow r).env = s.env := rfl
@[simp] theorem State.startTimerNow_gaps (r : Res) : (s.startTimerNow r).gaps = s.gaps := rfl
@[simp] theorem State.startTimerNow_slack (r : Res) : (s.startTimerNow r).slack =
    if s.fromPoll then s.slack else s.cfg.pollGap := rfl
@[simp] theorem State.startTimerNow_fromPoll (r : Res) : (s.startTimerNow r).fromPoll = s.fromPoll := rfl
@[simp] theorem State.startTimerNow_polledNow (r : Res) : (s.startTimerNow r).polledNow = s.polledNow := rfl
@[simp] theorem State.startTimerNow_ingestedNow (r : Res) : (s.startTimerNow r).ingestedNow = s.ingestedNow := rfl
@[simp] theorem State.startTimerNow_ingestIn (r : Res) : (s.startTimerNow r).ingestIn = s.ingestIn := rfl
@[simp] theorem State.startTimerNow_ingestOut (r : Res) : (s.startTimerNow r).ingestOut = s.ingestOut := rfl
@[simp] theorem State.startTimerNow_lineOut (r : Res) : (s.startTimerNow r).lineOut = s.lineOut := rfl

/-! ## `State.timerStart` -/

@[simp] theorem State.timerStart_cfg (r : Res) : (s.timerStart r).cfg = s.cfg := rfl
@[simp] theorem State.timerStart_state (r : Res) : (s.timerStart r).state = s.state := rfl
@[simp] theorem State.timerStart_tx (r : Res) : (s.timerStart r).tx = s.tx := rfl
@[simp] theorem State.timerStart_outcome (r : Res) : (s.timerStart r).outcome = s.outcome := rfl
@[simp] theorem State.timerStart_drive (r : Res) : (s.timerStart r).drive = s.drive := rfl
@[simp] theorem State.timerStart_timer (r : Res) : (s.timerStart r).timer = ⟨r, s.now + s.eventGap, true⟩ := rfl
@[simp] theorem State.timerStart_ids (r : Res) : (s.timerStart r).ids = s.ids := rfl
@[simp] theorem State.timerStart_regs (r : Res) : (s.timerStart r).regs = s.regs := rfl
@[simp] theorem State.timerStart_begun (r : Res) : (s.timerStart r).begun = s.begun := rfl
@[simp] theorem State.timerStart_resetEntry (r : Res) : (s.timerStart r).resetEntry = s.resetEntry := rfl
@[simp] theorem State.timerStart_now (r : Res) : (s.timerStart r).now = s.now + s.eventGap := rfl
@[simp] theorem State.timerStart_env (r : Res) : (s.timerStart r).env = s.env.drop s.eventGap := rfl
@[simp] theorem State.timerStart_gaps (r : Res) : (s.timerStart r).gaps = s.gaps.tail := rfl
@[simp] theorem State.timerStart_slack (r : Res) : (s.timerStart r).slack =
    if s.fromPoll then s.slack - s.eventGap else s.cfg.pollGap := rfl
@[simp] theorem State.timerStart_fromPoll (r : Res) : (s.timerStart r).fromPoll = s.fromPoll := rfl
@[simp] theorem State.timerStart_polledNow (r : Res) : (s.timerStart r).polledNow =
    (s.polledNow && s.eventGap == 0) := rfl
@[simp] theorem State.timerStart_ingestedNow (r : Res) : (s.timerStart r).ingestedNow =
    (s.ingestedNow && s.eventGap == 0) := rfl
@[simp] theorem State.timerStart_ingestIn (r : Res) : (s.timerStart r).ingestIn = s.ingestIn := rfl
@[simp] theorem State.timerStart_ingestOut (r : Res) : (s.timerStart r).ingestOut = s.ingestOut := rfl
@[simp] theorem State.timerStart_lineOut (r : Res) : (s.timerStart r).lineOut = s.lineOut := rfl

/-! ## `State.ingestPoint` -/

@[simp] theorem State.ingestPoint_cfg : (s.ingestPoint).cfg = s.cfg := rfl
@[simp] theorem State.ingestPoint_state : (s.ingestPoint).state = s.state := rfl
@[simp] theorem State.ingestPoint_tx : (s.ingestPoint).tx = s.tx := rfl
@[simp] theorem State.ingestPoint_outcome : (s.ingestPoint).outcome = s.outcome := rfl
@[simp] theorem State.ingestPoint_drive : (s.ingestPoint).drive = s.drive := rfl
@[simp] theorem State.ingestPoint_timer : (s.ingestPoint).timer = s.timer := rfl
@[simp] theorem State.ingestPoint_ids : (s.ingestPoint).ids = s.ids := rfl
@[simp] theorem State.ingestPoint_regs : (s.ingestPoint).regs =
    (s.regs.ingest s.cfg (s.ingestIn.headD .nop)).1 := rfl
@[simp] theorem State.ingestPoint_begun : (s.ingestPoint).begun = s.begun := rfl
@[simp] theorem State.ingestPoint_resetEntry : (s.ingestPoint).resetEntry = s.resetEntry := rfl
@[simp] theorem State.ingestPoint_now : (s.ingestPoint).now = s.now := rfl
@[simp] theorem State.ingestPoint_env : (s.ingestPoint).env = s.env := rfl
@[simp] theorem State.ingestPoint_gaps : (s.ingestPoint).gaps = s.gaps := rfl
@[simp] theorem State.ingestPoint_slack : (s.ingestPoint).slack = s.slack := rfl
@[simp] theorem State.ingestPoint_fromPoll : (s.ingestPoint).fromPoll = s.fromPoll := rfl
@[simp] theorem State.ingestPoint_polledNow : (s.ingestPoint).polledNow = s.polledNow := rfl
@[simp] theorem State.ingestPoint_ingestedNow : (s.ingestPoint).ingestedNow = true := rfl
@[simp] theorem State.ingestPoint_ingestIn : (s.ingestPoint).ingestIn = s.ingestIn.tail := rfl
@[simp] theorem State.ingestPoint_ingestOut : (s.ingestPoint).ingestOut =
    (s.regs.ingest s.cfg (s.ingestIn.headD .nop)).2 :: s.ingestOut := rfl
@[simp] theorem State.ingestPoint_lineOut : (s.ingestPoint).lineOut = s.lineOut := rfl

/-! ## `State.goto` -/

@[simp] theorem State.goto_cfg (e : EngineState) : (s.goto e).cfg = s.cfg := rfl
@[simp] theorem State.goto_state (e : EngineState) : (s.goto e).state = e := rfl
@[simp] theorem State.goto_tx (e : EngineState) : (s.goto e).tx = s.tx := rfl
@[simp] theorem State.goto_outcome (e : EngineState) : (s.goto e).outcome = s.outcome := rfl
@[simp] theorem State.goto_drive (e : EngineState) : (s.goto e).drive = s.drive := rfl
@[simp] theorem State.goto_timer (e : EngineState) : (s.goto e).timer = s.timer := rfl
@[simp] theorem State.goto_ids (e : EngineState) : (s.goto e).ids = s.ids := rfl
@[simp] theorem State.goto_regs (e : EngineState) : (s.goto e).regs = s.regs := rfl
@[simp] theorem State.goto_begun (e : EngineState) : (s.goto e).begun = s.begun := rfl
@[simp] theorem State.goto_resetEntry (e : EngineState) : (s.goto e).resetEntry = s.resetEntry := rfl
@[simp] theorem State.goto_now (e : EngineState) : (s.goto e).now = s.now := rfl
@[simp] theorem State.goto_env (e : EngineState) : (s.goto e).env = s.env := rfl
@[simp] theorem State.goto_gaps (e : EngineState) : (s.goto e).gaps = s.gaps := rfl
@[simp] theorem State.goto_slack (e : EngineState) : (s.goto e).slack = s.slack := rfl
@[simp] theorem State.goto_fromPoll (e : EngineState) : (s.goto e).fromPoll = s.fromPoll := rfl
@[simp] theorem State.goto_polledNow (e : EngineState) : (s.goto e).polledNow = s.polledNow := rfl
@[simp] theorem State.goto_ingestedNow (e : EngineState) : (s.goto e).ingestedNow = s.ingestedNow := rfl
@[simp] theorem State.goto_ingestIn (e : EngineState) : (s.goto e).ingestIn = s.ingestIn := rfl
@[simp] theorem State.goto_ingestOut (e : EngineState) : (s.goto e).ingestOut = s.ingestOut := rfl
@[simp] theorem State.goto_lineOut (e : EngineState) : (s.goto e).lineOut = s.lineOut := rfl

/-! ## `State.beginTransaction` -/

@[simp] theorem State.beginTransaction_cfg : (s.beginTransaction).cfg = s.cfg := rfl
@[simp] theorem State.beginTransaction_state : (s.beginTransaction).state = s.state := rfl
@[simp] theorem State.beginTransaction_tx : (s.beginTransaction).tx = Txn.fresh := rfl
@[simp] theorem State.beginTransaction_outcome : (s.beginTransaction).outcome = s.outcome := rfl
@[simp] theorem State.beginTransaction_drive : (s.beginTransaction).drive = s.drive := rfl
@[simp] theorem State.beginTransaction_timer : (s.beginTransaction).timer = s.timer := rfl
@[simp] theorem State.beginTransaction_ids : (s.beginTransaction).ids = s.ids := rfl
@[simp] theorem State.beginTransaction_regs : (s.beginTransaction).regs = s.regs := rfl
@[simp] theorem State.beginTransaction_begun : (s.beginTransaction).begun = true := rfl
@[simp] theorem State.beginTransaction_resetEntry : (s.beginTransaction).resetEntry = s.resetEntry := rfl
@[simp] theorem State.beginTransaction_now : (s.beginTransaction).now = s.now := rfl
@[simp] theorem State.beginTransaction_env : (s.beginTransaction).env = s.env := rfl
@[simp] theorem State.beginTransaction_gaps : (s.beginTransaction).gaps = s.gaps := rfl
@[simp] theorem State.beginTransaction_slack : (s.beginTransaction).slack = s.slack := rfl
@[simp] theorem State.beginTransaction_fromPoll : (s.beginTransaction).fromPoll = s.fromPoll := rfl
@[simp] theorem State.beginTransaction_polledNow : (s.beginTransaction).polledNow = s.polledNow := rfl
@[simp] theorem State.beginTransaction_ingestedNow : (s.beginTransaction).ingestedNow = s.ingestedNow := rfl
@[simp] theorem State.beginTransaction_ingestIn : (s.beginTransaction).ingestIn = s.ingestIn := rfl
@[simp] theorem State.beginTransaction_ingestOut : (s.beginTransaction).ingestOut = s.ingestOut := rfl
@[simp] theorem State.beginTransaction_lineOut : (s.beginTransaction).lineOut = s.lineOut := rfl

/-! ## `State.setCmd` -/

@[simp] theorem State.setCmd_cfg (v : Byte) : (s.setCmd v).cfg = s.cfg := rfl
@[simp] theorem State.setCmd_state (v : Byte) : (s.setCmd v).state = s.state := rfl
@[simp] theorem State.setCmd_tx (v : Byte) : (s.setCmd v).tx = { s.tx with cmd := v } := rfl
@[simp] theorem State.setCmd_outcome (v : Byte) : (s.setCmd v).outcome = s.outcome := rfl
@[simp] theorem State.setCmd_drive (v : Byte) : (s.setCmd v).drive = s.drive := rfl
@[simp] theorem State.setCmd_timer (v : Byte) : (s.setCmd v).timer = s.timer := rfl
@[simp] theorem State.setCmd_ids (v : Byte) : (s.setCmd v).ids = s.ids := rfl
@[simp] theorem State.setCmd_regs (v : Byte) : (s.setCmd v).regs = s.regs := rfl
@[simp] theorem State.setCmd_begun (v : Byte) : (s.setCmd v).begun = s.begun := rfl
@[simp] theorem State.setCmd_resetEntry (v : Byte) : (s.setCmd v).resetEntry = s.resetEntry := rfl
@[simp] theorem State.setCmd_now (v : Byte) : (s.setCmd v).now = s.now := rfl
@[simp] theorem State.setCmd_env (v : Byte) : (s.setCmd v).env = s.env := rfl
@[simp] theorem State.setCmd_gaps (v : Byte) : (s.setCmd v).gaps = s.gaps := rfl
@[simp] theorem State.setCmd_slack (v : Byte) : (s.setCmd v).slack = s.slack := rfl
@[simp] theorem State.setCmd_fromPoll (v : Byte) : (s.setCmd v).fromPoll = s.fromPoll := rfl
@[simp] theorem State.setCmd_polledNow (v : Byte) : (s.setCmd v).polledNow = s.polledNow := rfl
@[simp] theorem State.setCmd_ingestedNow (v : Byte) : (s.setCmd v).ingestedNow = s.ingestedNow := rfl
@[simp] theorem State.setCmd_ingestIn (v : Byte) : (s.setCmd v).ingestIn = s.ingestIn := rfl
@[simp] theorem State.setCmd_ingestOut (v : Byte) : (s.setCmd v).ingestOut = s.ingestOut := rfl
@[simp] theorem State.setCmd_lineOut (v : Byte) : (s.setCmd v).lineOut = s.lineOut := rfl

/-! ## `State.setTarget` -/

@[simp] theorem State.setTarget_cfg (m : ClassMask) : (s.setTarget m).cfg = s.cfg := rfl
@[simp] theorem State.setTarget_state (m : ClassMask) : (s.setTarget m).state = s.state := rfl
@[simp] theorem State.setTarget_tx (m : ClassMask) : (s.setTarget m).tx = { s.tx with target := m } := rfl
@[simp] theorem State.setTarget_outcome (m : ClassMask) : (s.setTarget m).outcome = s.outcome := rfl
@[simp] theorem State.setTarget_drive (m : ClassMask) : (s.setTarget m).drive = s.drive := rfl
@[simp] theorem State.setTarget_timer (m : ClassMask) : (s.setTarget m).timer = s.timer := rfl
@[simp] theorem State.setTarget_ids (m : ClassMask) : (s.setTarget m).ids = s.ids := rfl
@[simp] theorem State.setTarget_regs (m : ClassMask) : (s.setTarget m).regs = s.regs := rfl
@[simp] theorem State.setTarget_begun (m : ClassMask) : (s.setTarget m).begun = s.begun := rfl
@[simp] theorem State.setTarget_resetEntry (m : ClassMask) : (s.setTarget m).resetEntry = s.resetEntry := rfl
@[simp] theorem State.setTarget_now (m : ClassMask) : (s.setTarget m).now = s.now := rfl
@[simp] theorem State.setTarget_env (m : ClassMask) : (s.setTarget m).env = s.env := rfl
@[simp] theorem State.setTarget_gaps (m : ClassMask) : (s.setTarget m).gaps = s.gaps := rfl
@[simp] theorem State.setTarget_slack (m : ClassMask) : (s.setTarget m).slack = s.slack := rfl
@[simp] theorem State.setTarget_fromPoll (m : ClassMask) : (s.setTarget m).fromPoll = s.fromPoll := rfl
@[simp] theorem State.setTarget_polledNow (m : ClassMask) : (s.setTarget m).polledNow = s.polledNow := rfl
@[simp] theorem State.setTarget_ingestedNow (m : ClassMask) : (s.setTarget m).ingestedNow = s.ingestedNow := rfl
@[simp] theorem State.setTarget_ingestIn (m : ClassMask) : (s.setTarget m).ingestIn = s.ingestIn := rfl
@[simp] theorem State.setTarget_ingestOut (m : ClassMask) : (s.setTarget m).ingestOut = s.ingestOut := rfl
@[simp] theorem State.setTarget_lineOut (m : ClassMask) : (s.setTarget m).lineOut = s.lineOut := rfl

/-! ## `State.setReg` -/

@[simp] theorem State.setReg_cfg (r : RegNum) : (s.setReg r).cfg = s.cfg := rfl
@[simp] theorem State.setReg_state (r : RegNum) : (s.setReg r).state = s.state := rfl
@[simp] theorem State.setReg_tx (r : RegNum) : (s.setReg r).tx = { s.tx with reg := r } := rfl
@[simp] theorem State.setReg_outcome (r : RegNum) : (s.setReg r).outcome = s.outcome := rfl
@[simp] theorem State.setReg_drive (r : RegNum) : (s.setReg r).drive = s.drive := rfl
@[simp] theorem State.setReg_timer (r : RegNum) : (s.setReg r).timer = s.timer := rfl
@[simp] theorem State.setReg_ids (r : RegNum) : (s.setReg r).ids = s.ids := rfl
@[simp] theorem State.setReg_regs (r : RegNum) : (s.setReg r).regs = s.regs := rfl
@[simp] theorem State.setReg_begun (r : RegNum) : (s.setReg r).begun = s.begun := rfl
@[simp] theorem State.setReg_resetEntry (r : RegNum) : (s.setReg r).resetEntry = s.resetEntry := rfl
@[simp] theorem State.setReg_now (r : RegNum) : (s.setReg r).now = s.now := rfl
@[simp] theorem State.setReg_env (r : RegNum) : (s.setReg r).env = s.env := rfl
@[simp] theorem State.setReg_gaps (r : RegNum) : (s.setReg r).gaps = s.gaps := rfl
@[simp] theorem State.setReg_slack (r : RegNum) : (s.setReg r).slack = s.slack := rfl
@[simp] theorem State.setReg_fromPoll (r : RegNum) : (s.setReg r).fromPoll = s.fromPoll := rfl
@[simp] theorem State.setReg_polledNow (r : RegNum) : (s.setReg r).polledNow = s.polledNow := rfl
@[simp] theorem State.setReg_ingestedNow (r : RegNum) : (s.setReg r).ingestedNow = s.ingestedNow := rfl
@[simp] theorem State.setReg_ingestIn (r : RegNum) : (s.setReg r).ingestIn = s.ingestIn := rfl
@[simp] theorem State.setReg_ingestOut (r : RegNum) : (s.setReg r).ingestOut = s.ingestOut := rfl
@[simp] theorem State.setReg_lineOut (r : RegNum) : (s.setReg r).lineOut = s.lineOut := rfl

/-! ## `State.setErr` -/

@[simp] theorem State.setErr_cfg (e : Err) : (s.setErr e).cfg = s.cfg := rfl
@[simp] theorem State.setErr_state (e : Err) : (s.setErr e).state = s.state := rfl
@[simp] theorem State.setErr_tx (e : Err) : (s.setErr e).tx = { s.tx with err := e } := rfl
@[simp] theorem State.setErr_outcome (e : Err) : (s.setErr e).outcome = s.outcome := rfl
@[simp] theorem State.setErr_drive (e : Err) : (s.setErr e).drive = s.drive := rfl
@[simp] theorem State.setErr_timer (e : Err) : (s.setErr e).timer = s.timer := rfl
@[simp] theorem State.setErr_ids (e : Err) : (s.setErr e).ids = s.ids := rfl
@[simp] theorem State.setErr_regs (e : Err) : (s.setErr e).regs = s.regs := rfl
@[simp] theorem State.setErr_begun (e : Err) : (s.setErr e).begun = s.begun := rfl
@[simp] theorem State.setErr_resetEntry (e : Err) : (s.setErr e).resetEntry = s.resetEntry := rfl
@[simp] theorem State.setErr_now (e : Err) : (s.setErr e).now = s.now := rfl
@[simp] theorem State.setErr_env (e : Err) : (s.setErr e).env = s.env := rfl
@[simp] theorem State.setErr_gaps (e : Err) : (s.setErr e).gaps = s.gaps := rfl
@[simp] theorem State.setErr_slack (e : Err) : (s.setErr e).slack = s.slack := rfl
@[simp] theorem State.setErr_fromPoll (e : Err) : (s.setErr e).fromPoll = s.fromPoll := rfl
@[simp] theorem State.setErr_polledNow (e : Err) : (s.setErr e).polledNow = s.polledNow := rfl
@[simp] theorem State.setErr_ingestedNow (e : Err) : (s.setErr e).ingestedNow = s.ingestedNow := rfl
@[simp] theorem State.setErr_ingestIn (e : Err) : (s.setErr e).ingestIn = s.ingestIn := rfl
@[simp] theorem State.setErr_ingestOut (e : Err) : (s.setErr e).ingestOut = s.ingestOut := rfl
@[simp] theorem State.setErr_lineOut (e : Err) : (s.setErr e).lineOut = s.lineOut := rfl

/-! ## `State.setLen` -/

@[simp] theorem State.setLen_cfg (n : Nat) : (s.setLen n).cfg = s.cfg := rfl
@[simp] theorem State.setLen_state (n : Nat) : (s.setLen n).state = s.state := rfl
@[simp] theorem State.setLen_tx (n : Nat) : (s.setLen n).tx = { s.tx with len := n } := rfl
@[simp] theorem State.setLen_outcome (n : Nat) : (s.setLen n).outcome = s.outcome := rfl
@[simp] theorem State.setLen_drive (n : Nat) : (s.setLen n).drive = s.drive := rfl
@[simp] theorem State.setLen_timer (n : Nat) : (s.setLen n).timer = s.timer := rfl
@[simp] theorem State.setLen_ids (n : Nat) : (s.setLen n).ids = s.ids := rfl
@[simp] theorem State.setLen_regs (n : Nat) : (s.setLen n).regs = s.regs := rfl
@[simp] theorem State.setLen_begun (n : Nat) : (s.setLen n).begun = s.begun := rfl
@[simp] theorem State.setLen_resetEntry (n : Nat) : (s.setLen n).resetEntry = s.resetEntry := rfl
@[simp] theorem State.setLen_now (n : Nat) : (s.setLen n).now = s.now := rfl
@[simp] theorem State.setLen_env (n : Nat) : (s.setLen n).env = s.env := rfl
@[simp] theorem State.setLen_gaps (n : Nat) : (s.setLen n).gaps = s.gaps := rfl
@[simp] theorem State.setLen_slack (n : Nat) : (s.setLen n).slack = s.slack := rfl
@[simp] theorem State.setLen_fromPoll (n : Nat) : (s.setLen n).fromPoll = s.fromPoll := rfl
@[simp] theorem State.setLen_polledNow (n : Nat) : (s.setLen n).polledNow = s.polledNow := rfl
@[simp] theorem State.setLen_ingestedNow (n : Nat) : (s.setLen n).ingestedNow = s.ingestedNow := rfl
@[simp] theorem State.setLen_ingestIn (n : Nat) : (s.setLen n).ingestIn = s.ingestIn := rfl
@[simp] theorem State.setLen_ingestOut (n : Nat) : (s.setLen n).ingestOut = s.ingestOut := rfl
@[simp] theorem State.setLen_lineOut (n : Nat) : (s.setLen n).lineOut = s.lineOut := rfl

/-! ## `State.setBuf` -/

@[simp] theorem State.setBuf_cfg (i : Nat) (b : Byte) : (s.setBuf i b).cfg = s.cfg := rfl
@[simp] theorem State.setBuf_state (i : Nat) (b : Byte) : (s.setBuf i b).state = s.state := rfl
@[simp] theorem State.setBuf_tx (i : Nat) (b : Byte) : (s.setBuf i b).tx =
    { s.tx with buf := s.tx.buf.setIfInBounds i b } := rfl
@[simp] theorem State.setBuf_outcome (i : Nat) (b : Byte) : (s.setBuf i b).outcome = s.outcome := rfl
@[simp] theorem State.setBuf_drive (i : Nat) (b : Byte) : (s.setBuf i b).drive = s.drive := rfl
@[simp] theorem State.setBuf_timer (i : Nat) (b : Byte) : (s.setBuf i b).timer = s.timer := rfl
@[simp] theorem State.setBuf_ids (i : Nat) (b : Byte) : (s.setBuf i b).ids = s.ids := rfl
@[simp] theorem State.setBuf_regs (i : Nat) (b : Byte) : (s.setBuf i b).regs = s.regs := rfl
@[simp] theorem State.setBuf_begun (i : Nat) (b : Byte) : (s.setBuf i b).begun = s.begun := rfl
@[simp] theorem State.setBuf_resetEntry (i : Nat) (b : Byte) : (s.setBuf i b).resetEntry = s.resetEntry := rfl
@[simp] theorem State.setBuf_now (i : Nat) (b : Byte) : (s.setBuf i b).now = s.now := rfl
@[simp] theorem State.setBuf_env (i : Nat) (b : Byte) : (s.setBuf i b).env = s.env := rfl
@[simp] theorem State.setBuf_gaps (i : Nat) (b : Byte) : (s.setBuf i b).gaps = s.gaps := rfl
@[simp] theorem State.setBuf_slack (i : Nat) (b : Byte) : (s.setBuf i b).slack = s.slack := rfl
@[simp] theorem State.setBuf_fromPoll (i : Nat) (b : Byte) : (s.setBuf i b).fromPoll = s.fromPoll := rfl
@[simp] theorem State.setBuf_polledNow (i : Nat) (b : Byte) : (s.setBuf i b).polledNow = s.polledNow := rfl
@[simp] theorem State.setBuf_ingestedNow (i : Nat) (b : Byte) : (s.setBuf i b).ingestedNow = s.ingestedNow := rfl
@[simp] theorem State.setBuf_ingestIn (i : Nat) (b : Byte) : (s.setBuf i b).ingestIn = s.ingestIn := rfl
@[simp] theorem State.setBuf_ingestOut (i : Nat) (b : Byte) : (s.setBuf i b).ingestOut = s.ingestOut := rfl
@[simp] theorem State.setBuf_lineOut (i : Nat) (b : Byte) : (s.setBuf i b).lineOut = s.lineOut := rfl

/-! ## `State.endTx` -/

@[simp] theorem State.endTx_cfg (o : TxOutcome) : (s.endTx o).cfg = s.cfg := rfl
@[simp] theorem State.endTx_state (o : TxOutcome) : (s.endTx o).state = .idle := rfl
@[simp] theorem State.endTx_tx (o : TxOutcome) : (s.endTx o).tx = s.tx := rfl
@[simp] theorem State.endTx_outcome (o : TxOutcome) : (s.endTx o).outcome = o := rfl
@[simp] theorem State.endTx_drive (o : TxOutcome) : (s.endTx o).drive = false := rfl
@[simp] theorem State.endTx_timer (o : TxOutcome) : (s.endTx o).timer = s.timer := rfl
@[simp] theorem State.endTx_ids (o : TxOutcome) : (s.endTx o).ids = s.ids := rfl
@[simp] theorem State.endTx_regs (o : TxOutcome) : (s.endTx o).regs = s.regs := rfl
@[simp] theorem State.endTx_begun (o : TxOutcome) : (s.endTx o).begun = s.begun := rfl
@[simp] theorem State.endTx_resetEntry (o : TxOutcome) : (s.endTx o).resetEntry = s.resetEntry := rfl
@[simp] theorem State.endTx_now (o : TxOutcome) : (s.endTx o).now = s.now := rfl
@[simp] theorem State.endTx_env (o : TxOutcome) : (s.endTx o).env = s.env := rfl
@[simp] theorem State.endTx_gaps (o : TxOutcome) : (s.endTx o).gaps = s.gaps := rfl
@[simp] theorem State.endTx_slack (o : TxOutcome) : (s.endTx o).slack = s.slack := rfl
@[simp] theorem State.endTx_fromPoll (o : TxOutcome) : (s.endTx o).fromPoll = s.fromPoll := rfl
@[simp] theorem State.endTx_polledNow (o : TxOutcome) : (s.endTx o).polledNow = s.polledNow := rfl
@[simp] theorem State.endTx_ingestedNow (o : TxOutcome) : (s.endTx o).ingestedNow = s.ingestedNow := rfl
@[simp] theorem State.endTx_ingestIn (o : TxOutcome) : (s.endTx o).ingestIn = s.ingestIn := rfl
@[simp] theorem State.endTx_ingestOut (o : TxOutcome) : (s.endTx o).ingestOut = s.ingestOut := rfl
@[simp] theorem State.endTx_lineOut (o : TxOutcome) : (s.endTx o).lineOut =
    if s.drive = false then s.lineOut else (s.now, false) :: s.lineOut := rfl

/-! ## `State.raiseErr` -/

@[simp] theorem State.raiseErr_cfg (e : Err) : (s.raiseErr e).cfg = s.cfg := rfl
@[simp] theorem State.raiseErr_state (e : Err) : (s.raiseErr e).state = .idle := rfl
@[simp] theorem State.raiseErr_tx (e : Err) : (s.raiseErr e).tx = { s.tx with err := e } := rfl
@[simp] theorem State.raiseErr_outcome (e : Err) : (s.raiseErr e).outcome = .error e := rfl
@[simp] theorem State.raiseErr_drive (e : Err) : (s.raiseErr e).drive = false := rfl
@[simp] theorem State.raiseErr_timer (e : Err) : (s.raiseErr e).timer = s.timer := rfl
@[simp] theorem State.raiseErr_ids (e : Err) : (s.raiseErr e).ids = s.ids := rfl
@[simp] theorem State.raiseErr_regs (e : Err) : (s.raiseErr e).regs = s.regs := rfl
@[simp] theorem State.raiseErr_begun (e : Err) : (s.raiseErr e).begun = s.begun := rfl
@[simp] theorem State.raiseErr_resetEntry (e : Err) : (s.raiseErr e).resetEntry = s.resetEntry := rfl
@[simp] theorem State.raiseErr_now (e : Err) : (s.raiseErr e).now = s.now := rfl
@[simp] theorem State.raiseErr_env (e : Err) : (s.raiseErr e).env = s.env := rfl
@[simp] theorem State.raiseErr_gaps (e : Err) : (s.raiseErr e).gaps = s.gaps := rfl
@[simp] theorem State.raiseErr_slack (e : Err) : (s.raiseErr e).slack = s.slack := rfl
@[simp] theorem State.raiseErr_fromPoll (e : Err) : (s.raiseErr e).fromPoll = s.fromPoll := rfl
@[simp] theorem State.raiseErr_polledNow (e : Err) : (s.raiseErr e).polledNow = s.polledNow := rfl
@[simp] theorem State.raiseErr_ingestedNow (e : Err) : (s.raiseErr e).ingestedNow = s.ingestedNow := rfl
@[simp] theorem State.raiseErr_ingestIn (e : Err) : (s.raiseErr e).ingestIn = s.ingestIn := rfl
@[simp] theorem State.raiseErr_ingestOut (e : Err) : (s.raiseErr e).ingestOut = s.ingestOut := rfl
@[simp] theorem State.raiseErr_lineOut (e : Err) : (s.raiseErr e).lineOut =
    if s.drive = false then s.lineOut else (s.now, false) :: s.lineOut := rfl

/-! ## `State.setCollision` -/

@[simp] theorem State.setCollision_cfg (k : DevClass) (v : Bool) : (s.setCollision k v).cfg = s.cfg := rfl
@[simp] theorem State.setCollision_state (k : DevClass) (v : Bool) : (s.setCollision k v).state = s.state := rfl
@[simp] theorem State.setCollision_tx (k : DevClass) (v : Bool) : (s.setCollision k v).tx = s.tx := rfl
@[simp] theorem State.setCollision_outcome (k : DevClass) (v : Bool) : (s.setCollision k v).outcome =
    s.outcome := rfl
@[simp] theorem State.setCollision_drive (k : DevClass) (v : Bool) : (s.setCollision k v).drive = s.drive := rfl
@[simp] theorem State.setCollision_timer (k : DevClass) (v : Bool) : (s.setCollision k v).timer = s.timer := rfl
@[simp] theorem State.setCollision_ids (k : DevClass) (v : Bool) : (s.setCollision k v).ids =
    s.ids.set k { s.ids.get k with collision := v } := rfl
@[simp] theorem State.setCollision_regs (k : DevClass) (v : Bool) : (s.setCollision k v).regs = s.regs := rfl
@[simp] theorem State.setCollision_begun (k : DevClass) (v : Bool) : (s.setCollision k v).begun = s.begun := rfl
@[simp] theorem State.setCollision_resetEntry (k : DevClass) (v : Bool) : (s.setCollision k v).resetEntry =
    s.resetEntry := rfl
@[simp] theorem State.setCollision_now (k : DevClass) (v : Bool) : (s.setCollision k v).now = s.now := rfl
@[simp] theorem State.setCollision_env (k : DevClass) (v : Bool) : (s.setCollision k v).env = s.env := rfl
@[simp] theorem State.setCollision_gaps (k : DevClass) (v : Bool) : (s.setCollision k v).gaps = s.gaps := rfl
@[simp] theorem State.setCollision_slack (k : DevClass) (v : Bool) : (s.setCollision k v).slack = s.slack := rfl
@[simp] theorem State.setCollision_fromPoll (k : DevClass) (v : Bool) : (s.setCollision k v).fromPoll =
    s.fromPoll := rfl
@[simp] theorem State.setCollision_polledNow (k : DevClass) (v : Bool) : (s.setCollision k v).polledNow =
    s.polledNow := rfl
@[simp] theorem State.setCollision_ingestedNow (k : DevClass) (v : Bool) : (s.setCollision k v).ingestedNow =
    s.ingestedNow := rfl
@[simp] theorem State.setCollision_ingestIn (k : DevClass) (v : Bool) : (s.setCollision k v).ingestIn =
    s.ingestIn := rfl
@[simp] theorem State.setCollision_ingestOut (k : DevClass) (v : Bool) : (s.setCollision k v).ingestOut =
    s.ingestOut := rfl
@[simp] theorem State.setCollision_lineOut (k : DevClass) (v : Bool) : (s.setCollision k v).lineOut =
    s.lineOut := rfl

/-! ## `State.identityUpdate` -/

@[simp] theorem State.identityUpdate_cfg (k : DevClass) (b0 b1 : Byte) : (s.identityUpdate k b0 b1).cfg =
    s.cfg := rfl
@[simp] theorem State.identityUpdate_state (k : DevClass) (b0 b1 : Byte) : (s.identityUpdate k b0 b1).state =
    s.state := rfl
@[simp] theorem State.identityUpdate_tx (k : DevClass) (b0 b1 : Byte) : (s.identityUpdate k b0 b1).tx = s.tx := rfl
@[simp] theorem State.identityUpdate_outcome (k : DevClass) (b0 b1 : Byte) : (s.identityUpdate k b0 b1).outcome =
    s.outcome := rfl
@[simp] theorem State.identityUpdate_drive (k : DevClass) (b0 b1 : Byte) : (s.identityUpdate k b0 b1).drive =
    s.drive := rfl
@[simp] theorem State.identityUpdate_timer (k : DevClass) (b0 b1 : Byte) : (s.identityUpdate k b0 b1).timer =
    s.timer := rfl
@[simp] theorem State.identityUpdate_ids (k : DevClass) (b0 b1 : Byte) : (s.identityUpdate k b0 b1).ids =
    s.ids.set k ((s.ids.get k).update s.cfg (s.cfg.acceptHandlers k) b0 b1) := rfl
@[simp] theorem State.identityUpdate_regs (k : DevClass) (b0 b1 : Byte) : (s.identityUpdate k b0 b1).regs =
    s.regs := rfl
@[simp] theorem State.identityUpdate_begun (k : DevClass) (b0 b1 : Byte) : (s.identityUpdate k b0 b1).begun =
    s.begun := rfl
@[simp] theorem State.identityUpdate_resetEntry (k : DevClass) (b0 b1 : Byte) : (s.identityUpdate k b0 b1).resetEntry =
    s.resetEntry := rfl
@[simp] theorem State.identityUpdate_now (k : DevClass) (b0 b1 : Byte) : (s.identityUpdate k b0 b1).now =
    s.now := rfl
@[simp] theorem State.identityUpdate_env (k : DevClass) (b0 b1 : Byte) : (s.identityUpdate k b0 b1).env =
    s.env := rfl
@[simp] theorem State.identityUpdate_gaps (k : DevClass) (b0 b1 : Byte) : (s.identityUpdate k b0 b1).gaps =
    s.gaps := rfl
@[simp] theorem State.identityUpdate_slack (k : DevClass) (b0 b1 : Byte) : (s.identityUpdate k b0 b1).slack =
    s.slack := rfl
@[simp] theorem State.identityUpdate_fromPoll (k : DevClass) (b0 b1 : Byte) : (s.identityUpdate k b0 b1).fromPoll =
    s.fromPoll := rfl
@[simp] theorem State.identityUpdate_polledNow (k : DevClass) (b0 b1 : Byte) : (s.identityUpdate k b0 b1).polledNow =
    s.polledNow := rfl
@[simp] theorem State.identityUpdate_ingestedNow (k : DevClass) (b0 b1 : Byte) : (s.identityUpdate k b0 b1).ingestedNow =
    s.ingestedNow := rfl
@[simp] theorem State.identityUpdate_ingestIn (k : DevClass) (b0 b1 : Byte) : (s.identityUpdate k b0 b1).ingestIn =
    s.ingestIn := rfl
@[simp] theorem State.identityUpdate_ingestOut (k : DevClass) (b0 b1 : Byte) : (s.identityUpdate k b0 b1).ingestOut =
    s.ingestOut := rfl
@[simp] theorem State.identityUpdate_lineOut (k : DevClass) (b0 b1 : Byte) : (s.identityUpdate k b0 b1).lineOut =
    s.lineOut := rfl

/-! ## `State.flushClass` -/

@[simp] theorem State.flushClass_cfg (k : DevClass) : (s.flushClass k).cfg = s.cfg := rfl
@[simp] theorem State.flushClass_state (k : DevClass) : (s.flushClass k).state = s.state := rfl
@[simp] theorem State.flushClass_tx (k : DevClass) : (s.flushClass k).tx = s.tx := rfl
@[simp] theorem State.flushClass_outcome (k : DevClass) : (s.flushClass k).outcome = s.outcome := rfl
@[simp] theorem State.flushClass_drive (k : DevClass) : (s.flushClass k).drive = s.drive := rfl
@[simp] theorem State.flushClass_timer (k : DevClass) : (s.flushClass k).timer = s.timer := rfl
@[simp] theorem State.flushClass_ids (k : DevClass) : (s.flushClass k).ids = s.ids := rfl
@[simp] theorem State.flushClass_regs (k : DevClass) : (s.flushClass k).regs = s.regs.flush s.cfg k := rfl
@[simp] theorem State.flushClass_begun (k : DevClass) : (s.flushClass k).begun = s.begun := rfl
@[simp] theorem State.flushClass_resetEntry (k : DevClass) : (s.flushClass k).resetEntry = s.resetEntry := rfl
@[simp] theorem State.flushClass_now (k : DevClass) : (s.flushClass k).now = s.now := rfl
@[simp] theorem State.flushClass_env (k : DevClass) : (s.flushClass k).env = s.env := rfl
@[simp] theorem State.flushClass_gaps (k : DevClass) : (s.flushClass k).gaps = s.gaps := rfl
@[simp] theorem State.flushClass_slack (k : DevClass) : (s.flushClass k).slack = s.slack := rfl
@[simp] theorem State.flushClass_fromPoll (k : DevClass) : (s.flushClass k).fromPoll = s.fromPoll := rfl
@[simp] theorem State.flushClass_polledNow (k : DevClass) : (s.flushClass k).polledNow = s.polledNow := rfl
@[simp] theorem State.flushClass_ingestedNow (k : DevClass) : (s.flushClass k).ingestedNow = s.ingestedNow := rfl
@[simp] theorem State.flushClass_ingestIn (k : DevClass) : (s.flushClass k).ingestIn = s.ingestIn := rfl
@[simp] theorem State.flushClass_ingestOut (k : DevClass) : (s.flushClass k).ingestOut = s.ingestOut := rfl
@[simp] theorem State.flushClass_lineOut (k : DevClass) : (s.flushClass k).lineOut = s.lineOut := rfl

/-! ## Identities by class -/

@[simp] theorem Identities.get_set (k : DevClass) (x : Identity) (d : Identities) : (d.set k x).get k = x := by
  cases k <;> rfl

@[simp] theorem Identities.get_set_of_ne {j k : DevClass} (h : j ≠ k) (x : Identity) (d : Identities) :
    (d.set k x).get j = d.get j := by
  cases j <;> cases k <;> first | rfl | exact absurd rfl h

@[simp] theorem Identities.set_get (k : DevClass) (d : Identities) : d.set k (d.get k) = d := by
  cases k <;> rfl

@[simp] theorem ClassMask.onehot_get_iff (j k : DevClass) : (ClassMask.onehot k).get j = true ↔ j = k := by
  cases j <;> cases k <;> decide

@[simp] theorem ClassMask.zero_get (k : DevClass) : ClassMask.zero.get k = false := by
  cases k <;> rfl

@[simp] theorem ClassMask.first_onehot (k : DevClass) : (ClassMask.onehot k).first = some k := by
  cases k <;> rfl

end Sys2Proof.Machine
end

