-- ==== Sys2Proof/Laws/Polls.lean ====
section
/-!
SUPPORT. What the engine's polls, waits and bit transport can do: `Polled s t` says once that between `s` and `t` time
has passed, INGEST has performed a prefix of its operations, and of the rest only the line driver, the timer and the
spacing of events may differ, which stays within `POLL_GAP`. `Watched s t` adds that CORE's driver and timer stayed as
they were.
-/

namespace Sys2Proof.Machine

/-- `t` is reached from `s` by engine events alone. -/
structure Polled (s t : State) : Prop where
  cfg : t.cfg = s.cfg
  state : t.state = s.state
  tx : t.tx = s.tx
  outcome : t.outcome = s.outcome
  ids : t.ids = s.ids
  begun : t.begun = s.begun
  resetEntry : t.resetEntry = s.resetEntry
  now_le : s.now ≤ t.now
  env : t.env = s.env.drop (t.now - s.now)
  ops : ingestedOnly s t s.regs
  paced : s.slack ≤ s.cfg.pollGap → t.slack ≤ t.cfg.pollGap

/-! ## The spacing of events (R11, R68) -/

/-- No chosen spacing outlasts what is left until the next event. -/
theorem State.eventGap_le (s : State) : s.eventGap ≤ s.slack := Nat.min_le_right ..

/-- From poll to poll inside a wait at least one tick passes (R68). -/
theorem State.one_le_pollGapFrom (s : State) : 1 ≤ s.pollGapFrom 1 := by
  unfold State.pollGapFrom
  split
  · exact Nat.le_refl 1
  · exact Nat.le_max_left ..

/-- A chosen spacing puts the next poll at a later tick, as far as the time to it allows (R68). -/
theorem State.one_le_pollGapFrom_of_chosen (s : State) (ref : Nat) (h : s.polledNow = true) (hg : s.gaps ≠ [])
    (hs : 1 ≤ s.slack) : 1 ≤ s.pollGapFrom ref := by
  unfold State.pollGapFrom
  split
  · exact absurd ‹_› hg
  · simp only [h, if_true]
    omega

/-- A poll comes within what is left, or `ref` ticks after the last one. -/
theorem State.pollGapFrom_le (s : State) (ref : Nat) : s.pollGapFrom ref ≤ max ref s.slack := by
  unfold State.pollGapFrom
  split
  · exact Nat.le_max_left ..
  · omega

/-! ## Engine events in sequence -/

theorem RegFile.runOps_append (c : Config) (xs ys : List IngestOp) (r : RegFile) :
    RegFile.runOps c (xs ++ ys) r = RegFile.runOps c ys (RegFile.runOps c xs r) := by
  simp [RegFile.runOps, List.foldl_append]

theorem ingestedOnly.trans {s t u : State} {r : RegFile} (hc : t.cfg = s.cfg) (h1 : ingestedOnly s t r)
    (h2 : ingestedOnly t u t.regs) : ingestedOnly s u r := by
  obtain ⟨n, hin, hr⟩ := h1
  obtain ⟨m, hin', hr'⟩ := h2
  refine ⟨n + m, ?_, ?_⟩
  · rw [hin', hin, List.drop_drop]
  · rw [hr', hr, hin, hc, List.take_add, RegFile.runOps_append]

theorem Polled.refl (s : State) : Polled s s :=
  ⟨rfl, rfl, rfl, rfl, rfl, rfl, rfl, Nat.le_refl _, by simp, ⟨0, by simp, by simp [RegFile.runOps]⟩, id⟩

theorem Polled.trans {s t u : State} (h1 : Polled s t) (h2 : Polled t u) : Polled s u where
  cfg := h2.cfg.trans h1.cfg
  state := h2.state.trans h1.state
  tx := h2.tx.trans h1.tx
  outcome := h2.outcome.trans h1.outcome
  ids := h2.ids.trans h1.ids
  begun := h2.begun.trans h1.begun
  resetEntry := h2.resetEntry.trans h1.resetEntry
  now_le := Nat.le_trans h1.now_le h2.now_le
  env := by
    have := h1.now_le
    have := h2.now_le
    rw [h2.env, h1.env, List.drop_drop]
    congr 1
    omega
  ops := h1.ops.trans h1.cfg h2.ops
  paced := h2.paced ∘ h1.paced

/-- An update that leaves everything `Polled` speaks of in place is a poll of no length. -/
theorem Polled.of_same {s t : State} (hc : t.cfg = s.cfg) (hs : t.state = s.state) (hx : t.tx = s.tx)
    (ho : t.outcome = s.outcome) (hi : t.ids = s.ids) (hb : t.begun = s.begun) (he : t.resetEntry = s.resetEntry)
    (hn : t.now = s.now) (hv : t.env = s.env) (hg : t.ingestIn = s.ingestIn) (hr : t.regs = s.regs)
    (hp : s.slack ≤ s.cfg.pollGap → t.slack ≤ t.cfg.pollGap) : Polled s t :=
  ⟨hc, hs, hx, ho, hi, hb, he, hn.ge, by simp [hn, hv], ⟨0, by simp [hg], by simp [hr, RegFile.runOps]⟩, hp⟩

theorem polled_passTime (g : Nat) (s : State) : Polled s (s.passTime g) :=
  ⟨rfl, rfl, rfl, rfl, rfl, rfl, rfl, by simp, by simp, ⟨0, by simp, by simp [RegFile.runOps]⟩,
    fun h => Nat.le_trans (Nat.sub_le ..) h⟩

theorem polled_toEvent (s : State) : Polled s s.toEvent := polled_passTime _ s

theorem polled_toPoll (ref : Nat) (s : State) : Polled s (s.toPoll ref) := polled_passTime _ s

theorem polled_markPoll (s : State) : Polled s s.markPoll :=
  .of_same rfl rfl rfl rfl rfl rfl rfl rfl rfl rfl rfl (fun _ => Nat.le_refl _)

theorem polled_dueBy (t : Nat) (s : State) : Polled s (s.dueBy t) :=
  .of_same rfl rfl rfl rfl rfl rfl rfl rfl rfl rfl rfl (fun h => Nat.le_trans (Nat.min_le_left ..) h)

theorem polled_markDrive (s : State) : Polled s s.markDrive :=
  .of_same rfl rfl rfl rfl rfl rfl rfl rfl rfl rfl rfl (fun _ => Nat.le_refl _)

theorem polled_setDrive (v : Bool) (s : State) : Polled s (s.setDrive v) :=
  .of_same rfl rfl rfl rfl rfl rfl rfl rfl rfl rfl rfl id

theorem polled_startTimerNow (r : Res) (s : State) : Polled s (s.startTimerNow r) :=
  .of_same rfl rfl rfl rfl rfl rfl rfl rfl rfl rfl rfl
    (fun h => by rw [State.startTimerNow_slack]; split; exacts [h, Nat.le_refl _])

theorem polled_driveLine (v : Bool) (s : State) : Polled s (s.driveLine v) :=
  ((polled_toEvent s).trans (polled_setDrive v _)).trans (polled_markDrive _)

theorem polled_timerStart (r : Res) (s : State) : Polled s (s.timerStart r) :=
  (polled_toEvent s).trans (polled_startTimerNow r _)

theorem polled_pollLine (s : State) : Polled s s.pollLine.1 :=
  (polled_toPoll 0 s).trans (polled_markPoll _)

theorem polled_ingestPoint (s : State) : Polled s s.ingestPoint := by
  refine ⟨rfl, rfl, rfl, rfl, rfl, rfl, rfl, Nat.le_refl _, by simp, ⟨1, by simp, ?_⟩, id⟩
  cases h : s.ingestIn <;> simp [h, RegFile.runOps, RegFile.ingest, RegFile.perform, IngestOp.cls]

theorem polled_waitPoll (ing : Bool) (s : State) : Polled s (s.waitPoll ing) := by
  unfold State.waitPoll
  split
  · exact (polled_ingestPoint s).trans (polled_markPoll _)
  · exact polled_markPoll s

theorem polled_pollLoop (lvl : Bool) (T : Nat) (ing : Bool) (n : Nat) (s : State) :
    Polled s (pollLoop lvl T ing n s).1 := by
  induction n generalizing s with
  | zero => exact .refl s
  | succ n ih =>
    simp only [pollLoop]
    split
    · exact polled_waitPoll ing s
    · split
      · exact polled_waitPoll ing s
      · exact ((polled_waitPoll ing s).trans (polled_toPoll 1 _)).trans (ih _)

theorem polled_pollUntil (lvl : Bool) (T : Nat) (ing : Bool) (s : State) : Polled s (pollUntil lvl T ing s).1 :=
  ((polled_dueBy _ s).trans (polled_toPoll 0 _)).trans (polled_pollLoop lvl T ing _ _)

theorem polled_waitAssert (T : Nat) (r : Res) (s : State) : Polled s (waitAssert T r s).1 :=
  (polled_timerStart r s).trans (polled_pollUntil true T true _)

theorem polled_waitFree (T : Nat) (r : Res) (s : State) : Polled s (waitFree T r s).1 :=
  (polled_timerStart r s).trans (polled_pollUntil false T true _)

theorem polled_resyncAssert (T : Nat) (s : State) : Polled s (resyncAssert T s).1 :=
  (polled_timerStart .fine s).trans (polled_pollUntil true T false _)

theorem polled_resyncFree (T : Nat) (s : State) : Polled s (resyncFree T s).1 :=
  (polled_timerStart .fine s).trans (polled_pollUntil false T false _)

theorem polled_holdLoop (H : Nat) (ing : Bool) (n : Nat) (s : State) : Polled s (holdLoop H ing n s) := by
  induction n generalizing s with
  | zero => exact .refl s
  | succ n ih =>
    simp only [holdLoop]
    split
    · exact polled_waitPoll ing s
    · exact ((polled_waitPoll ing s).trans (polled_toPoll 1 _)).trans (ih _)

theorem polled_holdUntil (H : Nat) (ing : Bool) (s : State) : Polled s (holdUntil H ing s) :=
  ((polled_dueBy _ s).trans (polled_toPoll 0 _)).trans (polled_holdLoop H ing _ _)

theorem polled_writeLow (lo : Nat) (s : State) : Polled s (writeLow lo s) :=
  (((polled_timerStart .fine s).trans (polled_driveLine true _)).trans (polled_holdUntil lo true _)).trans
    (polled_driveLine false _)

theorem polled_writeBit (b : Bool) (s : State) : Polled s (writeBit b s).1 := by
  have hw := ((polled_pollLine s).trans (polled_writeLow (sentLow s.cfg.timing b) _)).trans
    (polled_waitAssert (sentHigh s.cfg.timing b) .fine _)
  simp only [writeBit]
  split
  · exact polled_pollLine s
  · split <;> exact hw

/-- A transmission goes on by polls if each of its parts does. -/
theorem polled_onSent {s : State} {r : State × Err} {f : State → State × Err} (h : Polled s r.1)
    (hf : ∀ t, Polled t (f t).1) : Polled s (onSent r f).1 := by
  unfold onSent
  split
  · exact h.trans (hf _)
  · exact h

theorem polled_writeBits (v : Byte) (n : Nat) (s : State) : Polled s (writeBits v n s).1 := by
  induction n generalizing s with
  | zero => exact .refl s
  | succ n ih => exact polled_onSent (polled_writeBit _ s) ih

theorem polled_readBits (n : Nat) (v : Byte) (s : State) : Polled s (readBits n v s).1 := by
  induction n generalizing v s with
  | zero => exact .refl s
  | succ n ih =>
    have hlo := polled_waitFree s.cfg.timing.tBitLowMax .fine s
    have hhi := hlo.trans (polled_waitAssert s.cfg.timing.tBitHighMax .fine _)
    simp only [readBits]
    split
    · exact hlo
    · split
      · exact hlo
      · split
        · exact hhi
        · exact hhi.trans (ih _ _)

theorem polled_readByte (s : State) : Polled s (readByte s).1 := polled_readBits 8 _ s

theorem polled_writeBytes (bs : List Byte) (s : State) : Polled s (writeBytes bs s).1 := by
  induction bs generalizing s with
  | nil => exact .refl s
  | cons b rest ih => exact polled_onSent (polled_writeBits b 8 s) ih

theorem polled_sendFrame (bs : List Byte) (s : State) : Polled s (sendFrame bs s).1 :=
  polled_onSent (polled_onSent (polled_writeBit true s) (polled_writeBytes bs)) (polled_writeBit false)

/-! ## Waits leave CORE's driver and timer alone -/

/-- `t` has `s`'s line driver, line history and timer. -/
structure Watched (s t : State) : Prop where
  drive : t.drive = s.drive
  lineOut : t.lineOut = s.lineOut
  timer : t.timer = s.timer

theorem Watched.refl (s : State) : Watched s s := ⟨rfl, rfl, rfl⟩

theorem Watched.trans {s t u : State} (h1 : Watched s t) (h2 : Watched t u) : Watched s u :=
  ⟨h2.drive.trans h1.drive, h2.lineOut.trans h1.lineOut, h2.timer.trans h1.timer⟩

theorem watched_ingestPoint (s : State) : Watched s s.ingestPoint := ⟨rfl, rfl, rfl⟩

theorem watched_markPoll (s : State) : Watched s s.markPoll := ⟨rfl, rfl, rfl⟩

theorem watched_waitPoll (ing : Bool) (s : State) : Watched s (s.waitPoll ing) := by
  unfold State.waitPoll
  split
  · exact (watched_ingestPoint s).trans (watched_markPoll _)
  · exact watched_markPoll s

theorem watched_dueBy (t : Nat) (s : State) : Watched s (s.dueBy t) := ⟨rfl, rfl, rfl⟩

theorem watched_toPoll (ref : Nat) (s : State) : Watched s (s.toPoll ref) := ⟨rfl, rfl, rfl⟩

theorem watched_pollLoop (lvl : Bool) (T : Nat) (ing : Bool) (n : Nat) (s : State) :
    Watched s (pollLoop lvl T ing n s).1 := by
  induction n generalizing s with
  | zero => exact .refl s
  | succ n ih =>
    have hp := watched_waitPoll ing s
    simp only [pollLoop]
    split
    · exact hp
    · split
      · exact hp
      · exact (hp.trans (watched_toPoll 1 _)).trans (ih _)

theorem watched_pollUntil (lvl : Bool) (T : Nat) (ing : Bool) (s : State) : Watched s (pollUntil lvl T ing s).1 :=
  ((watched_dueBy _ s).trans (watched_toPoll 0 _)).trans (watched_pollLoop lvl T ing _ _)

theorem watched_holdLoop (H : Nat) (ing : Bool) (n : Nat) (s : State) : Watched s (holdLoop H ing n s) := by
  induction n generalizing s with
  | zero => exact .refl s
  | succ n ih =>
    have hp := watched_waitPoll ing s
    simp only [holdLoop]
    split
    · exact hp
    · exact (hp.trans (watched_toPoll 1 _)).trans (ih _)

theorem watched_holdUntil (H : Nat) (ing : Bool) (s : State) : Watched s (holdUntil H ing s) :=
  ((watched_dueBy _ s).trans (watched_toPoll 0 _)).trans (watched_holdLoop H ing _ _)

/-- A restarted wait leaves the driver and the line history alone. -/
theorem waitAssert_drive (T : Nat) (r : Res) (s : State) :
    (waitAssert T r s).1.drive = s.drive ∧ (waitAssert T r s).1.lineOut = s.lineOut :=
  ⟨(watched_pollUntil true T true (s.timerStart r)).drive, (watched_pollUntil true T true (s.timerStart r)).lineOut⟩

theorem waitFree_drive (T : Nat) (r : Res) (s : State) :
    (waitFree T r s).1.drive = s.drive ∧ (waitFree T r s).1.lineOut = s.lineOut :=
  ⟨(watched_pollUntil false T true (s.timerStart r)).drive, (watched_pollUntil false T true (s.timerStart r)).lineOut⟩

theorem readBits_drive (n : Nat) (v : Byte) (s : State) :
    (readBits n v s).1.drive = s.drive ∧ (readBits n v s).1.lineOut = s.lineOut := by
  induction n generalizing v s with
  | zero => exact ⟨rfl, rfl⟩
  | succ n ih =>
    have hlo := waitFree_drive s.cfg.timing.tBitLowMax .fine s
    have hhi := waitAssert_drive s.cfg.timing.tBitHighMax .fine (waitFree s.cfg.timing.tBitLowMax .fine s).1
    simp only [readBits]
    split
    · exact hlo
    · split
      · exact hlo
      · split
        · exact ⟨hhi.1.trans hlo.1, hhi.2.trans hlo.2⟩
        · exact ⟨(ih _ _).1.trans (hhi.1.trans hlo.1), (ih _ _).2.trans (hhi.2.trans hlo.2)⟩

/-- `WriteBit` leaves the line released if it found it so, on every path (R73, R144). -/
theorem writeBit_released (b : Bool) (s : State) (h : s.drive = false) : (writeBit b s).1.drive = false := by
  simp only [writeBit]
  split
  · simpa [State.pollLine] using h
  · split <;> exact (waitAssert_drive _ _ _).1

/-! ## One poll at a tick, and how late the polls of a wait or hold come (R68, R69, R71) -/

@[simp] theorem State.waitPoll_polledNow (ing : Bool) (s : State) : (s.waitPoll ing).polledNow = true := by
  simp [State.waitPoll]

@[simp] theorem State.waitPoll_now (ing : Bool) (s : State) : (s.waitPoll ing).now = s.now := by
  unfold State.waitPoll; split <;> simp

@[simp] theorem State.waitPoll_cfg (ing : Bool) (s : State) : (s.waitPoll ing).cfg = s.cfg := (polled_waitPoll ing s).cfg

@[simp] theorem State.waitPoll_timer (ing : Bool) (s : State) : (s.waitPoll ing).timer = s.timer :=
  (watched_waitPoll ing s).timer

/-- Where the poll of this tick and its ingest point have taken place, a wait that starts at it makes no second one: the
time to the next event counts from the poll there is. -/
theorem State.waitPoll_shared (ing : Bool) (s : State) (hi : s.ingestedNow = true) : s.waitPoll ing = s.markPoll := by
  simp [State.waitPoll, hi]

/-- W7 in fine ticks: a poll up to `POLL_GAP` after the last tick below `T` comes before the wrap (R30). -/
theorem ticks_of_w7 {T g r : Nat} (hr : 1 ≤ r) (hT : 1 ≤ T) (h : T - 1 + (g + r - 1) / r ≤ 255) :
    T * r + g ≤ 256 * r := by
  have hg : g ≤ (g + r - 1) / r * r := by
    have := Nat.lt_div_mul_add (a := g + r - 1) hr
    omega
  have hm : (T - 1 + (g + r - 1) / r) * r ≤ 255 * r := Nat.mul_le_mul_right r h
  obtain ⟨m, rfl⟩ := Nat.exists_eq_add_of_le hT
  simp only [Nat.add_mul, Nat.add_sub_cancel_left] at hm ⊢
  omega

/-- The count before the wrap is the elapsed time in the timer's resolution (R65). -/
theorem State.ticks_of_lt (s : State) (hrun : s.timer.running = true)
    (h : s.now - s.timer.t0 < 256 * s.cfg.rTicks s.timer.res) :
    s.ticks = (s.now - s.timer.t0) / s.cfg.rTicks s.timer.res := by
  have : (s.now - s.timer.t0) / s.cfg.rTicks s.timer.res < 256 := Nat.div_lt_of_lt_mul (by rwa [Nat.mul_comm])
  simp [State.ticks, State.count, hrun, Nat.mod_eq_of_lt this]

/-- A wait's or hold's first poll falls by tick `d`. -/
theorem State.toPoll_dueBy_le (s : State) (d : Nat) (h : s.now ≤ d) : ((s.dueBy d).toPoll 0).now ≤ d := by
  have hg := (s.dueBy d).pollGapFrom_le 0
  simp only [State.dueBy_slack] at hg
  simp only [State.toPoll_now, State.dueBy_now]
  omega

/-- The running timer has not wrapped, and the next event is at most `POLL_GAP` away. -/
structure Counting (s : State) : Prop where
  running : s.timer.running = true
  since : s.timer.t0 ≤ s.now
  paced : s.slack ≤ s.cfg.pollGap

theorem Counting.of_polled {s t : State} (h : Counting s) (hp : Polled s t) (ht : t.timer = s.timer) : Counting t :=
  ⟨ht ▸ h.running, ht ▸ Nat.le_trans h.since hp.now_le, hp.paced h.paced⟩

/-- From a poll, the next one of the same wait comes one tick to `POLL_GAP` later (R68). -/
theorem State.toPoll_one_now (s : State) (h : s.slack ≤ s.cfg.pollGap)
    (hg : 1 ≤ s.cfg.pollGap) : s.now + 1 ≤ (s.toPoll 1).now ∧ (s.toPoll 1).now ≤ s.now + s.cfg.pollGap := by
  have h1 := s.one_le_pollGapFrom
  have h2 := s.pollGapFrom_le 1
  simp only [State.toPoll_now]
  omega

/-- The loop of a hold from a poll by the hold's last tick. -/
theorem holdLoop_ends (H : Nat) (ing : Bool) (n : Nat) (s : State) (hc : Counting s) (hg : 1 ≤ s.cfg.pollGap)
    (hr : 1 ≤ s.cfg.rTicks s.timer.res)
    (hw : H * s.cfg.rTicks s.timer.res + s.cfg.pollGap ≤ 256 * s.cfg.rTicks s.timer.res)
    (hd : s.now ≤ s.holdDue H) (hn : s.timer.t0 + H * s.cfg.rTicks s.timer.res < s.now + n) (hn1 : 1 ≤ n) :
    H ≤ (holdLoop H ing n s).ticks ∧ s.timer.t0 + H * s.cfg.rTicks s.timer.res ≤ (holdLoop H ing n s).now ∧
      (holdLoop H ing n s).now ≤ s.holdDue H := by
  induction n generalizing s with
  | zero => omega
  | succ n ih =>
    have hp := polled_waitPoll ing s
    have hc1 := hc.of_polled hp (s.waitPoll_timer ing)
    simp only [State.holdDue] at hd ⊢
    have hs := hc.since
    have ht : (s.waitPoll ing).ticks = (s.now - s.timer.t0) / s.cfg.rTicks s.timer.res := by
      rw [State.ticks_of_lt _ hc1.running] <;> simp
      omega
    simp only [holdLoop]
    split
    · next h =>
      rw [ht, Nat.le_div_iff_mul_le hr] at h
      refine ⟨by rw [ht, Nat.le_div_iff_mul_le hr]; exact h, ?_, ?_⟩ <;> rw [State.waitPoll_now] <;> omega
    · next h =>
      rw [ht, Nat.le_div_iff_mul_le hr] at h
      have hstep := (s.waitPoll ing).toPoll_one_now hc1.paced (by simpa using hg)
      simp only [State.waitPoll_now, State.waitPoll_cfg] at hstep
      have := ih ((s.waitPoll ing).toPoll 1) (hc1.of_polled (polled_toPoll 1 _) rfl) (by simpa using hg)
        (by simpa using hr) (by simpa using hw) (by simp only [State.holdDue, State.toPoll_timer, State.toPoll_cfg, State.waitPoll_timer, State.waitPoll_cfg]; omega)
        (by simp only [State.toPoll_timer, State.toPoll_cfg, State.waitPoll_timer, State.waitPoll_cfg]; omega) (by omega)
      simpa [State.holdDue] using this

/-- A hold ends at a poll with `count ≥ H`, at `t0 + H·r_ticks` or at most `POLL_GAP − 1` fine ticks later, and no poll
of it reads a wrapped count (R71, R152). -/
theorem holdUntil_ends (H : Nat) (ing : Bool) (s : State) (hc : Counting s) (hg : 1 ≤ s.cfg.pollGap)
    (hr : 1 ≤ s.cfg.rTicks s.timer.res)
    (hw : H * s.cfg.rTicks s.timer.res + s.cfg.pollGap ≤ 256 * s.cfg.rTicks s.timer.res)
    (hd : s.now ≤ s.holdDue H) :
    H ≤ (holdUntil H ing s).ticks ∧ s.timer.t0 + H * s.cfg.rTicks s.timer.res ≤ (holdUntil H ing s).now ∧
      (holdUntil H ing s).now ≤ s.holdDue H := by
  have hp := (polled_dueBy (s.holdDue H) s).trans (polled_toPoll 0 _)
  have := holdLoop_ends H ing (s.pollBound H) ((s.dueBy (s.holdDue H)).toPoll 0) (hc.of_polled hp rfl) hg hr hw
    (s.toPoll_dueBy_le _ hd) (by have := hc.since; have := hp.now_le; simp [State.pollBound] at this ⊢; omega)
    (by simp [State.pollBound])
  exact this

theorem State.waitDue_le (lvl : Bool) (s : State) : s.waitDue lvl ≤ s.wrapDue := by
  unfold State.waitDue
  split
  · exact Nat.min_le_left ..
  · exact Nat.le_refl _

/-- What R165's formula leaves a wait that starts with the line at its level is at least `POLL_GAP − 1` fine ticks. -/
theorem State.le_levelDue (s : State) (hr : 1 ≤ s.cfg.rTicks s.timer.res) (h : s.timer.t0 ≤ s.now) :
    s.now + (s.cfg.pollGap - 1) ≤ s.levelDue := by
  have := Nat.lt_div_mul_add (a := s.now - s.timer.t0 + (s.cfg.pollGap - 1)) hr
  simp only [State.levelDue, Nat.add_mul]
  omega

/-- A count read by `levelDue` is within R165's formula. -/
theorem State.div_le_of_le_levelDue (s : State) {t : Nat} (hr : 1 ≤ s.cfg.rTicks s.timer.res) (h : t ≤ s.levelDue) :
    (t - s.timer.t0) / s.cfg.rTicks s.timer.res ≤
      (s.now - s.timer.t0 + (s.cfg.pollGap - 1)) / s.cfg.rTicks s.timer.res := by
  refine Nat.le_of_lt_succ (Nat.div_lt_of_lt_mul ?_)
  simp only [State.levelDue] at h
  rw [Nat.mul_comm]
  have : 1 ≤ ((s.now - s.timer.t0 + (s.cfg.pollGap - 1)) / s.cfg.rTicks s.timer.res + 1) * s.cfg.rTicks s.timer.res :=
    Nat.mul_pos (Nat.succ_pos _) hr
  simp only [Nat.succ_eq_add_one]
  omega

theorem State.now_le_waitDue (lvl : Bool) (s : State) (hr : 1 ≤ s.cfg.rTicks s.timer.res) (h : s.timer.t0 ≤ s.now)
    (hd : s.now ≤ s.wrapDue) : s.now ≤ s.waitDue lvl := by
  have := s.le_levelDue hr h
  unfold State.waitDue
  split <;> omega

/-- The first poll of a wait that starts with the line at its level is within R165's formula, after a drive change as
after a `TimerStart` (R165). -/
theorem State.firstPoll_at_level (lvl : Bool) (s : State) (hr : 1 ≤ s.cfg.rTicks s.timer.res)
    (h0 : s.timer.t0 ≤ s.now) (hd : s.now ≤ s.wrapDue) (hl : s.line = lvl) :
    (((s.dueBy (s.waitDue lvl)).toPoll 0).now - s.timer.t0) / s.cfg.rTicks s.timer.res ≤
      (s.now - s.timer.t0 + (s.cfg.pollGap - 1)) / s.cfg.rTicks s.timer.res := by
  refine s.div_le_of_le_levelDue hr (Nat.le_trans (s.toPoll_dueBy_le _ (s.now_le_waitDue lvl hr h0 hd)) ?_)
  simp only [State.waitDue, hl, if_true]
  exact Nat.min_le_right ..

/-- The loop of a wait from a poll before the wrap. -/
theorem pollLoop_unwrapped (lvl : Bool) (T : Nat) (ing : Bool) (n : Nat) (s : State) (hc : Counting s)
    (hg : 1 ≤ s.cfg.pollGap) (hr : 1 ≤ s.cfg.rTicks s.timer.res)
    (hw : T * s.cfg.rTicks s.timer.res + s.cfg.pollGap ≤ 256 * s.cfg.rTicks s.timer.res)
    (hd : s.now ≤ s.wrapDue) (hn : s.timer.t0 + T * s.cfg.rTicks s.timer.res < s.now + n) (hn1 : 1 ≤ n) :
    (pollLoop lvl T ing n s).2 = ((pollLoop lvl T ing n s).1.now - s.timer.t0) / s.cfg.rTicks s.timer.res ∧
      (pollLoop lvl T ing n s).1.now ≤ s.wrapDue := by
  induction n generalizing s with
  | zero => omega
  | succ n ih =>
    have hp := polled_waitPoll ing s
    have hc1 := hc.of_polled hp (s.waitPoll_timer ing)
    simp only [State.wrapDue] at hd ⊢
    have hs := hc.since
    have ht : (s.waitPoll ing).ticks = (s.now - s.timer.t0) / s.cfg.rTicks s.timer.res := by
      rw [State.ticks_of_lt _ hc1.running] <;> simp
      omega
    simp only [pollLoop]
    split
    · exact ⟨by rw [ht, State.waitPoll_now], by rw [State.waitPoll_now]; exact hd⟩
    · split
      · exact ⟨by rw [ht, State.waitPoll_now], by rw [State.waitPoll_now]; exact hd⟩
      · next h =>
        rw [ht, Nat.le_div_iff_mul_le hr] at h
        have hstep := (s.waitPoll ing).toPoll_one_now hc1.paced (by simpa using hg)
        simp only [State.waitPoll_now, State.waitPoll_cfg] at hstep
        have := ih ((s.waitPoll ing).toPoll 1) (hc1.of_polled (polled_toPoll 1 _) rfl) (by simpa using hg)
          (by simpa using hr) (by simpa using hw) (by simp only [State.wrapDue, State.toPoll_timer, State.toPoll_cfg, State.waitPoll_timer, State.waitPoll_cfg]; omega)
          (by simp only [State.toPoll_timer, State.toPoll_cfg, State.waitPoll_timer, State.waitPoll_cfg]; omega) (by omega)
        simpa [State.wrapDue] using this

/-- Under W7 a wait returns the elapsed ticks at its last poll: the count has not wrapped (R69, R152). -/
theorem pollUntil_unwrapped (lvl : Bool) (T : Nat) (ing : Bool) (s : State) (hc : Counting s)
    (hg : 1 ≤ s.cfg.pollGap) (hr : 1 ≤ s.cfg.rTicks s.timer.res)
    (hw : T * s.cfg.rTicks s.timer.res + s.cfg.pollGap ≤ 256 * s.cfg.rTicks s.timer.res)
    (hd : s.now ≤ s.wrapDue) :
    (pollUntil lvl T ing s).2 = ((pollUntil lvl T ing s).1.now - s.timer.t0) / s.cfg.rTicks s.timer.res ∧
      (pollUntil lvl T ing s).1.now ≤ s.wrapDue := by
  have hp := (polled_dueBy (s.waitDue lvl) s).trans (polled_toPoll 0 _)
  have := pollLoop_unwrapped lvl T ing (s.pollBound T) ((s.dueBy (s.waitDue lvl)).toPoll 0) (hc.of_polled hp rfl) hg hr
    hw (Nat.le_trans (s.toPoll_dueBy_le _ (s.now_le_waitDue lvl hr hc.since hd)) (s.waitDue_le lvl)) (by have := hc.since; have := hp.now_le; simp [State.pollBound] at this ⊢; omega)
    (by simp [State.pollBound])
  exact this

/-- A drive change falls by tick `d`. -/
theorem State.driveLine_dueBy_le (v : Bool) (s : State) (d : Nat) (h : s.now ≤ d) : ((s.dueBy d).driveLine v).now ≤ d := by
  have hg := (s.dueBy d).eventGap_le
  simp only [State.dueBy_slack] at hg
  simp only [State.driveLine_now, State.dueBy_now]
  omega

/-- After CORE's assertion in the Service-Request Window the ceiling's wait starts before the counter wraps, so that
`pollUntil_unwrapped` holds of it (R69, R84). -/
theorem srqAssert_before_wrap (s : State) (hc : Counting s) (hg : 1 ≤ s.cfg.pollGap)
    (hr : 1 ≤ s.cfg.rTicks s.timer.res)
    (hw : (s.cfg.timing.tSrqAssert + 1) * s.cfg.rTicks s.timer.res + s.cfg.pollGap ≤
      256 * s.cfg.rTicks s.timer.res)
    (hd : s.now ≤ s.holdDue s.cfg.timing.tSrqAssert) :
    (srqAssert s).now ≤ (srqAssert s).wrapDue ∧
      (srqAssert s).timer = s.timer ∧ Counting (srqAssert s) := by
  rw [Nat.add_mul] at hw
  have h1 := s.driveLine_dueBy_le true _ hd
  unfold srqAssert
  generalize hu : (s.dueBy (s.holdDue s.cfg.timing.tSrqAssert)).driveLine true = u at h1
  have hp : Polled s u := hu ▸ (polled_dueBy _ s).trans (polled_driveLine true _)
  have ht : u.timer = s.timer := by simp [← hu]
  have hcu := hc.of_polled hp ht
  have hdue : u.holdDue s.cfg.timing.tSrqAssert = s.holdDue s.cfg.timing.tSrqAssert := by
    simp [State.holdDue, ht, hp.cfg]
  have he := holdUntil_ends s.cfg.timing.tSrqAssert true u hcu (by rwa [hp.cfg]) (by rwa [hp.cfg, ht])
    (by rw [hp.cfg, ht]; omega) (by rwa [hdue])
  have hp' := polled_holdUntil s.cfg.timing.tSrqAssert true u
  have ht' := (watched_holdUntil s.cfg.timing.tSrqAssert true u).timer
  simp only [hu]
  generalize holdUntil s.cfg.timing.tSrqAssert true u = v at he hp' ht'
  have hcv := hcu.of_polled hp' ht'
  refine ⟨?_, ht'.trans ht, hcv.of_polled ((polled_dueBy v.wrapDue v).trans (polled_driveLine false _)) (by simp)⟩
  refine v.driveLine_dueBy_le false _ (Nat.le_trans he.2.2 ?_)
  simp only [State.holdDue, State.wrapDue, hp'.cfg, ht', hp.cfg, ht]
  omega

/-! ## Results -/

/-- A wait that ends below its limit has seen the level it waits for (R69). -/
theorem pollLoop_reached (lvl : Bool) (T : Nat) (ing : Bool) (n : Nat) (s : State)
    (h : (pollLoop lvl T ing n s).2 < T) : (pollLoop lvl T ing n s).1.line = lvl := by
  induction n generalizing s with
  | zero => exact absurd h (Nat.lt_irrefl T)
  | succ n ih =>
    simp only [pollLoop] at h ⊢
    split
    · assumption
    · split
      · next h1 h2 =>
        rw [if_neg h1, if_pos h2] at h
        exact absurd h (Nat.not_lt.mpr h2)
      · next h1 h2 =>
        rw [if_neg h1, if_neg h2] at h
        exact ih _ h

theorem pollUntil_reached (lvl : Bool) (T : Nat) (ing : Bool) (s : State) (h : (pollUntil lvl T ing s).2 < T) :
    (pollUntil lvl T ing s).1.line = lvl :=
  pollLoop_reached lvl T ing _ _ h

/-- `WriteBit` reports nothing but the two collisions (R73, D31). -/
theorem writeBit_err (b : Bool) (s : State) :
    (writeBit b s).2 = .none ∨ (writeBit b s).2 = .wbPre ∨ (writeBit b s).2 = .wbHigh := by
  simp only [writeBit]
  split
  · simp
  · split <;> simp

theorem onSent_err {r : State × Err} {f : State → State × Err}
    (h : r.2 = .none ∨ r.2 = .wbPre ∨ r.2 = .wbHigh)
    (hf : ∀ t, (f t).2 = .none ∨ (f t).2 = .wbPre ∨ (f t).2 = .wbHigh) :
    (onSent r f).2 = .none ∨ (onSent r f).2 = .wbPre ∨ (onSent r f).2 = .wbHigh := by
  unfold onSent
  split
  · exact hf _
  · exact h

theorem writeBits_err (v : Byte) (n : Nat) (s : State) :
    (writeBits v n s).2 = .none ∨ (writeBits v n s).2 = .wbPre ∨ (writeBits v n s).2 = .wbHigh := by
  induction n generalizing s with
  | zero => exact .inl rfl
  | succ n ih => exact onSent_err (writeBit_err _ s) ih

theorem writeBytes_err (bs : List Byte) (s : State) :
    (writeBytes bs s).2 = .none ∨ (writeBytes bs s).2 = .wbPre ∨ (writeBytes bs s).2 = .wbHigh := by
  induction bs generalizing s with
  | nil => exact .inl rfl
  | cons b rest ih => exact onSent_err (writeBits_err b 8 s) ih

theorem sendFrame_err (bs : List Byte) (s : State) :
    (sendFrame bs s).2 = .none ∨ (sendFrame bs s).2 = .wbPre ∨ (sendFrame bs s).2 = .wbHigh :=
  onSent_err (onSent_err (writeBit_err true s) (writeBytes_err bs)) (writeBit_err false)

/-- Every transmission leaves the line released if it found it so (R144). -/
theorem onSent_released {r : State × Err} {f : State → State × Err} (h : r.1.drive = false)
    (hf : ∀ t, t.drive = false → (f t).1.drive = false) : (onSent r f).1.drive = false := by
  unfold onSent
  split
  · exact hf _ h
  · exact h

theorem writeBits_released (v : Byte) (n : Nat) (s : State) (h : s.drive = false) :
    (writeBits v n s).1.drive = false := by
  induction n generalizing s with
  | zero => exact h
  | succ n ih => exact onSent_released (writeBit_released _ s h) ih

theorem writeBytes_released (bs : List Byte) (s : State) (h : s.drive = false) :
    (writeBytes bs s).1.drive = false := by
  induction bs generalizing s with
  | nil => exact h
  | cons b rest ih => exact onSent_released (writeBits_released b 8 s h) ih

theorem sendFrame_released (bs : List Byte) (s : State) (h : s.drive = false) :
    (sendFrame bs s).1.drive = false :=
  onSent_released (onSent_released (writeBit_released true s h) (writeBytes_released bs)) (writeBit_released false)

end Sys2Proof.Machine
end

