-- ==== Sys2Proof/Laws/Registers.lean ====
section
/-!
SUPPORT. What the register file's operations can do: the keyboard queue's entries, the bounds every ingest operation
keeps (`RegFile.Bounded`, the part of the invariant that INGEST can reach), the frame of production, and how a
command's address selects its class.
-/

namespace Sys2Proof.Machine

/-! ## The keyboard queue -/

@[simp] theorem Keyboard.entries_length (k : Keyboard) : k.entries.length = k.size := by simp [Keyboard.entries]

theorem Keyboard.slot_val (k : Keyboard) (i : Nat) : (k.slot i).val = (k.head.toNat + i) % 16 := rfl

/-- Two positions of a queue with room share no slot. -/
theorem Keyboard.slot_ne (k : Keyboard) {i n : Nat} (hi : i < n) (hn : n < 16) : k.slot n ≠ k.slot i := by
  intro h
  have := congrArg Fin.val h
  rw [Keyboard.slot_val, Keyboard.slot_val] at this
  omega

/-- `Append` leaves the entries before the tail in place. -/
theorem Keyboard.append_entry_lt (k : Keyboard) (x : Byte) {i : Nat} (hi : i < k.size) (hs : k.size < 16) :
    (k.append x).entry i = k.entry i := by
  have hne : (k.slot k.size).val ≠ (k.slot i).val := fun h => k.slot_ne hi hs (Fin.ext h)
  exact Vector.getElem_set_ne (k.slot k.size).isLt (k.slot i).isLt hne

theorem Keyboard.append_entry_size (k : Keyboard) (x : Byte) : (k.append x).entry k.size = x :=
  Vector.getElem_set_self ..

/-- `Append` on a queue with room puts one entry at its end (R122). -/
theorem Keyboard.append_entries (k : Keyboard) (x : Byte) (hs : k.size < 16) :
    (k.append x).entries = k.entries ++ [x] := by
  have hsz : (k.append x).size = k.size + 1 := rfl
  rw [Keyboard.entries, hsz, List.range_succ, List.map_append, Keyboard.entries]
  congr 1
  · exact List.map_congr_left fun i hi => k.append_entry_lt x (List.mem_range.mp hi) hs
  · simp [Keyboard.append_entry_size]

theorem Keyboard.pushSingle_size (k : Keyboard) (x : Byte) (h : k.size ≤ 16) : (k.pushSingle x).1.size ≤ 16 := by
  unfold Keyboard.pushSingle
  split
  · exact h
  · have : (k.append x).size = k.size + 1 := rfl
    simp_all only [kbdQueueCap]
    omega

theorem Keyboard.pushPair_size (k : Keyboard) (x y : Byte) (h : k.size ≤ 16) : (k.pushPair x y).1.size ≤ 16 := by
  by_cases hodd : k.size % 2 = 1 <;>
    simp only [Keyboard.pushPair, hodd, if_true, if_false, kbdQueueCap] <;> split <;>
    simp only [Keyboard.append] <;> omega

theorem Keyboard.drain_size (k : Keyboard) (n : Nat) (h : k.size ≤ 16) : (k.drain n).size ≤ 16 := by
  simp only [Keyboard.drain]
  split
  · exact h
  · exact Nat.le_trans (Nat.sub_le _ _) h

/-! ## Bounds that ingest and drain keep -/

theorem clampInt_mem (v lo hi : Int) (h : lo ≤ hi) : lo ≤ clampInt v lo hi ∧ clampInt v lo hi ≤ hi := by
  unfold clampInt
  omega

/-- The bounds of R27 and R136 on the register file. -/
structure RegFile.Bounded (c : Config) (r : RegFile) : Prop where
  queue : r.kbd.size ≤ 16
  r0len : r.arb.r0len ≤ 8
  ready : r.arb.r0ready = true → 1 ≤ r.arb.r0len
  mouse : MouseInRange c r.mouse

theorem Mouse.move_inRange {c : Config} (hc : MouseRanges c) (dx dy : BitVec 16) {m : Mouse} (h : MouseInRange c m) :
    MouseInRange c (m.move c dx dy) :=
  have hr : c.mouseAccMin ≤ c.mouseAccMax := Int.le_trans hc.accMin hc.accMax
  ⟨clampInt_mem _ _ _ hr, clampInt_mem _ _ _ hr, h.repDx, h.repDy⟩

theorem Mouse.drain_inRange {c : Config} (hc : MouseRanges c) (b : BitVec 2) {m : Mouse} (h : MouseInRange c m) :
    MouseInRange c (m.drain c b) :=
  have hr : c.mouseAccMin ≤ c.mouseAccMax := Int.le_trans hc.accMin hc.accMax
  ⟨clampInt_mem _ _ _ hr, clampInt_mem _ _ _ hr, h.repDx, h.repDy⟩

theorem Mouse.report_inRange {c : Config} (hc : MouseRanges c) {m : Mouse} (h : MouseInRange c m) :
    MouseInRange c (m.report c) :=
  have hr : c.mouseClampMin ≤ c.mouseClampMax := Int.le_trans hc.clampMin hc.clampMax
  ⟨h.accX, h.accY, clampInt_mem _ _ _ hr, clampInt_mem _ _ _ hr⟩

theorem Mouse.cleared_inRange {c : Config} (hc : MouseRanges c) : MouseInRange c Mouse.cleared :=
  ⟨⟨hc.accMin, hc.accMax⟩, ⟨hc.accMin, hc.accMax⟩, ⟨hc.clampMin, hc.clampMax⟩, ⟨hc.clampMin, hc.clampMax⟩⟩

theorem Arbitrary.loadR0_ready (d : List Byte) (a : Arbitrary) (h8 : a.r0len ≤ 8)
    (h1 : a.r0ready = true → 1 ≤ a.r0len) :
    (a.loadR0 d).1.r0len ≤ 8 ∧ ((a.loadR0 d).1.r0ready = true → 1 ≤ (a.loadR0 d).1.r0len) := by
  unfold Arbitrary.loadR0
  split
  · exact ⟨h8, h1⟩
  · split
    · exact ⟨h8, h1⟩
    · simp only [arbR0Cap] at *
      omega

theorem RegFile.perform_bounded {c : Config} (hc : MouseRanges c) (op : IngestOp) {r : RegFile} (h : r.Bounded c) :
    (r.perform c op).1.Bounded c := by
  cases op with
  | nop => exact h
  | kbdPushSingle x => exact ⟨r.kbd.pushSingle_size x h.queue, h.r0len, h.ready, h.mouse⟩
  | kbdPushPair a b => exact ⟨r.kbd.pushPair_size a b h.queue, h.r0len, h.ready, h.mouse⟩
  | kbdSetR2 v => exact ⟨h.queue, h.r0len, h.ready, h.mouse⟩
  | mouseMove dx dy => exact ⟨h.queue, h.r0len, h.ready, Mouse.move_inRange hc dx dy h.mouse⟩
  | mouseButtons b =>
    simp only [RegFile.perform]
    split
    · exact h
    · exact ⟨h.queue, h.r0len, h.ready, ⟨h.mouse.accX, h.mouse.accY, h.mouse.repDx, h.mouse.repDy⟩⟩
  | arbLoadR0 d =>
    have hl := Arbitrary.loadR0_ready d r.arb h.r0len h.ready
    exact ⟨h.queue, hl.1, hl.2, h.mouse⟩
  | arbR0Status => exact h
  | arbWriteR2 v => exact ⟨h.queue, h.r0len, h.ready, h.mouse⟩
  | arbReadR2 => exact h

/-- An ingest operation is refused without effect or performed; either way the bounds stay (R129, R127). -/
theorem RegFile.ingest_bounded {c : Config} (hc : MouseRanges c) (op : IngestOp) {r : RegFile} (h : r.Bounded c) :
    (r.ingest c op).1.Bounded c := by
  unfold RegFile.ingest
  split
  · exact RegFile.perform_bounded hc op h
  · split
    · exact RegFile.perform_bounded hc op h
    · exact h

theorem RegFile.runOps_bounded {c : Config} (hc : MouseRanges c) (ops : List IngestOp) {r : RegFile}
    (h : r.Bounded c) : (RegFile.runOps c ops r).Bounded c := by
  induction ops generalizing r with
  | nil => exact h
  | cons op rest ih => exact ih (RegFile.ingest_bounded hc op h)

theorem RegFile.drainR0_bounded {c : Config} (hc : MouseRanges c) (tx : Txn) (k : DevClass) {r : RegFile}
    (h : r.Bounded c) : (r.drainR0 c tx k).Bounded c := by
  cases k with
  | kbd => exact ⟨r.kbd.drain_size _ h.queue, h.r0len, h.ready, h.mouse⟩
  | mouse => exact ⟨h.queue, h.r0len, h.ready, Mouse.drain_inRange hc _ h.mouse⟩
  | arb => exact ⟨h.queue, h.r0len, fun hf => Bool.noConfusion hf, h.mouse⟩

theorem RegFile.flush_bounded {c : Config} (hc : MouseRanges c) (k : DevClass) {r : RegFile} (h : r.Bounded c) :
    (r.flush c k).Bounded c := by
  cases k with
  | kbd => exact ⟨Nat.zero_le _, h.r0len, h.ready, h.mouse⟩
  | mouse => exact ⟨h.queue, h.r0len, h.ready, Mouse.cleared_inRange hc⟩
  | arb => exact ⟨h.queue, Nat.zero_le _, fun hf => Bool.noConfusion hf, h.mouse⟩

/-! ## Production -/

/-- `t` differs from `s` at most in what production may write: of the transaction registers `buf`, `len`, `drainKbd`
and `drainButtons`, of the register file the mouse's registers. -/
def ProducedFrom (s t : State) : Prop :=
  t = { s with
    tx := { s.tx with
      buf := t.tx.buf, len := t.tx.len, drainKbd := t.tx.drainKbd, drainButtons := t.tx.drainButtons }
    regs := { s.regs with mouse := t.regs.mouse } }

theorem producedFrom_none (s : State) : ProducedFrom s s.produceNone := rfl

theorem producedFrom_pair (b0 b1 : Byte) (s : State) : ProducedFrom s (s.producePair b0 b1) := rfl

theorem producedFrom_r0 (k : DevClass) (s : State) : ProducedFrom s (s.produceR0 k) := by
  cases k with
  | kbd =>
    simp only [State.produceR0, State.produceKbdR0]
    split
    · exact producedFrom_none s
    · rfl
  | mouse =>
    simp only [State.produceR0, State.produceMouseR0]
    split
    · rfl
    · exact producedFrom_none s
  | arb =>
    simp only [State.produceR0, State.produceArbR0]
    split
    · rfl
    · exact producedFrom_none s

theorem producedFrom_r2 (k : DevClass) (s : State) : ProducedFrom s (s.produceR2 k) := by
  cases k with
  | kbd => exact producedFrom_pair _ _ s
  | mouse => exact producedFrom_none s
  | arb =>
    simp only [State.produceR2, State.produceArbR2]
    split
    · exact producedFrom_pair _ _ s
    · exact producedFrom_none s

/-- Production writes the transmit buffer, the drain record and the mouse's reported deltas, and nothing else (R102,
R105 to R114). -/
theorem State.produce_frame (k : DevClass) (r : RegNum) (s : State) : ProducedFrom s (s.produce k r) := by
  unfold State.produce
  split
  · exact producedFrom_r0 k s
  · split
    · exact producedFrom_none s
    · split
      · exact producedFrom_r2 k s
      · exact producedFrom_pair _ _ s

/-! ## The address match -/

/-- The match depends on nothing but the configuration and the identities (R82). -/
theorem State.matchClass_congr {s t : State} (hc : t.cfg = s.cfg) (hi : t.ids = s.ids) (a : BusAddr) :
    t.matchClass a = s.matchClass a := by
  simp [State.matchClass, hc, hi]

theorem State.matchMask_congr {s t : State} (hc : t.cfg = s.cfg) (hi : t.ids = s.ids) (a : BusAddr) :
    t.matchMask a = s.matchMask a := by
  simp [State.matchMask, State.matchClass_congr hc hi a]

/-- The class a command addresses is present and has the command's address (R82). -/
theorem State.matchClass_sound {s : State} {a : BusAddr} {k : DevClass} (h : s.matchClass a = some k) :
    s.cfg.present k = true ∧ (s.ids.get k).addr = a := by
  have := List.find?_some h
  simpa using this

/-- An unaddressed command ends its transaction (R85). -/
theorem State.command_none {s : State} {a : BusAddr} (f : DevClass → State → State) (h : s.matchClass a = none) :
    s.command a f = (s.setTarget ClassMask.zero).endTx .notAddressed := by
  simp [State.command, h]

/-- An addressed command runs its own part with `target` at its class (R85). -/
theorem State.command_some {s : State} {a : BusAddr} {k : DevClass} (f : DevClass → State → State)
    (h : s.matchClass a = some k) : s.command a f = f k (s.setTarget (ClassMask.onehot k)) := by
  simp [State.command, h]

end Sys2Proof.Machine
end

