-- ==== Sys2Proof/Machine/Script.lean ====
section
/-!
DEFINITION. The bus-script notation of R62 as data: what a master and the other agents do, step by step, the command
byte a step stands for, and the line levels the reference host of 95_test_vectors.md §1 gives it. CORE runs no
script; a script's waveform is an `env` and its ingest operations an `ingestIn`.
-/

namespace Sys2Proof.Machine

/-- A step of a bus script, the two pseudo-instructions included (R62). -/
inductive BusStep where
  | reset
  | cmd (w : Byte)
  | talk (a : BusAddr) (r : RegNum)
  | listen (a : BusAddr) (r : RegNum) (data : List Byte)
  | flush (a : BusAddr)
  | ingest (op : IngestOp)
  | collideTlt
  | poll (a : BusAddr)
  | sendReset
deriving DecidableEq, Repr

/-- The pseudo-instructions: `POLL a` is `TALK a, reg0`, `SENDRESET` is `CMD 0x00` (R62). -/
def BusStep.expand : BusStep → BusStep
  | .poll a => .talk a 0#2
  | .sendReset => .cmd 0x00#8
  | .reset => .reset
  | .cmd w => .cmd w
  | .talk a r => .talk a r
  | .listen a r d => .listen a r d
  | .flush a => .flush a
  | .ingest op => .ingest op
  | .collideTlt => .collideTlt

/-- The command byte a step sends, if it sends one (R62). -/
def BusStep.cmdByte (b : BusStep) : Option Byte :=
  match b.expand with
  | .cmd w => some w
  | .talk a r => some (a ++ (0b11#2 ++ r))
  | .listen a r _ => some (a ++ (0b10#2 ++ r))
  | .flush a => some (a ++ 0b0001#4)
  | .reset => none
  | .ingest _ => none
  | .collideTlt => none
  | .poll _ => none
  | .sendReset => none

/-- The times of a host, in fine ticks. `listenGap` counts from the release of the stop bit. -/
structure HostTimes where
  resetLow : Nat
  attention : Nat
  sync : Nat
  short : Nat
  long : Nat
  stopLow : Nat
  listenGap : Nat
  collideAfter : Nat
  collideLow : Nat
deriving DecidableEq, Repr

/-- The reference host of 95_test_vectors.md §1, with P1's reset and S5's collision. -/
def HostTimes.reference : HostTimes := ⟨3000, 800, 65, 35, 65, 65, 200, 80, 35⟩

/-- A bit of the host: a 1 is low `short` then high `long`, a 0 the other way round (R49). -/
def HostTimes.bit (h : HostTimes) (b : Bool) : List Bool :=
  if b then List.replicate h.short true ++ List.replicate h.long false
  else List.replicate h.long true ++ List.replicate h.short false

/-- A byte of the host, bit 7 first (R36). -/
def HostTimes.byte (h : HostTimes) (v : Byte) : List Bool :=
  [7, 6, 5, 4, 3, 2, 1, 0].flatMap fun i => h.bit (v.getLsbD i)

/-- A command frame up to the release of its stop bit (R52). -/
def HostTimes.command (h : HostTimes) (w : Byte) : List Bool :=
  List.replicate h.attention true ++ List.replicate h.sync false ++ h.byte w ++ List.replicate h.stopLow true

/-- A data frame: start bit 1, the bytes, the stop bit's low (R54). -/
def HostTimes.data (h : HostTimes) (d : List Byte) : List Bool :=
  h.bit true ++ d.flatMap h.byte ++ List.replicate h.stopLow true

/-- The line levels of one step (R62). -/
def BusStep.wave (h : HostTimes) (b : BusStep) : List Bool :=
  match b.expand with
  | .reset => List.replicate h.resetLow true
  | .cmd w => h.command w
  | .talk a r => h.command (a ++ (0b11#2 ++ r))
  | .listen a r d => h.command (a ++ (0b10#2 ++ r)) ++ List.replicate h.listenGap false ++ h.data d
  | .flush a => h.command (a ++ 0b0001#4)
  | .collideTlt => List.replicate h.collideAfter false ++ List.replicate h.collideLow true
  | .ingest _ => []
  | .poll _ => []
  | .sendReset => []

end Sys2Proof.Machine
end

