-- ==== Sys2Proof/Tests/Slice0.lean ====
section
/-!
SUPPORT. Tests: the decodings of command bytes written out from R55's fields, the smoke tests of W1 to W9, one or two
single steps per command with results taken from 95_test_vectors.md, boundary values of the engine's states, and for
each obligation with hypotheses a witness that meets them. The tiny timing table stands in for TT1 where a whole phase
runs, so that the kernel's runs stay short; the vectors' results do not depend on the table.
-/

namespace Sys2Proof.Tests

open Sys2Proof Sys2Proof.Machine

/-! ## Decoding: `AAAA CC RR` written out from R55, with R56's map -/

theorem test_decode_talkR0 : decode [0b00101100] = .ok (.talkR0 2, []) := by decide
theorem test_decode_talkR1 : decode [0b00111101] = .ok (.talkR1 3, []) := by decide
theorem test_decode_talkR2 : decode [0b01001110] = .ok (.talkR2 4, []) := by decide
theorem test_decode_talkR3 : decode [0b01111111] = .ok (.talkR3 7, []) := by decide
theorem test_decode_listenR0 : decode [0b00101000] = .ok (.listenR0 2, []) := by decide
theorem test_decode_listenR1 : decode [0b00111001] = .ok (.listenR1 3, []) := by decide
theorem test_decode_listenR2 : decode [0b01001010] = .ok (.listenR2 4, []) := by decide
theorem test_decode_listenR3 : decode [0b00101011] = .ok (.listenR3 2, []) := by decide
theorem test_decode_flush : decode [0b00100001] = .ok (.flush 2, []) := by decide
theorem test_decode_rsv0 : decode [0b00000000] = .ok (.rsv0 0, []) := by decide
theorem test_decode_rsv2 : decode [0b11110010] = .ok (.rsv2 15, []) := by decide
theorem test_decode_rsv3 : decode [0b00100011] = .ok (.rsv3 2, []) := by decide
theorem test_decode_rsv4 : decode [0b00100110, 0x55] = .ok (.rsv4 2 2, [0x55]) := by decide
theorem test_decode_nothing : decode [] = .error .noCommandByte := by decide
theorem test_decodeTableWord : decodeTableWord 8 0x2C = some (.talkR0 2) := by decide

/-- The cells of 0x2C are 0, 0, 1, 0, 1, 1, 0, 0 (95 §3.1). -/
theorem test_bits_msb_first : bitsMsb 0x2C = [false, false, true, false, true, true, false, false] := by decide

/-- P5's `TALK 3, reg0` and R62's pseudo-instructions. -/
theorem test_script_bytes :
    BusStep.cmdByte (.talk 3 0) = some 0x3C ∧ BusStep.cmdByte (.listen 2 3 [0x07, 0x03]) = some 0x2B ∧
    BusStep.cmdByte (.flush 2) = some 0x21 ∧ BusStep.cmdByte (.poll 2) = some 0x2C ∧
    BusStep.cmdByte .sendReset = some 0x00 := by decide

/-! ## The checks W1 to W9 (R30): TC1 under TT1 passes, and each broken configuration is refused -/

/-- TC1 with another full-speed table. -/
def withTiming (t : Timing) : Config := { Config.tc1 with timingFull := t }

theorem test_wf_tc1 : Config.tc1.wf = true := by decide
theorem smoke_w1_low : (withTiming { Timing.tt1 with tAttnMin := 0 }).w1 = false := by decide
theorem smoke_w1_high : (withTiming { Timing.tt1 with tReset := 256 }).w1 = false := by decide
theorem smoke_w2 : (withTiming { Timing.tt1 with tReset := 35 }).w2 = false := by decide
theorem smoke_w3 : (withTiming { Timing.tt1 with tSyncMin := 90 }).w3 = false := by decide
theorem smoke_w4_min : (withTiming { Timing.tt1 with tBitLowMin := 50 }).w4 = false := by decide
theorem smoke_w4_max : (withTiming { Timing.tt1 with tBitLowMax := 50 }).w4 = false := by decide
theorem smoke_w5 : (withTiming { Timing.tt1 with tBitShort := 65 }).w5 = false := by decide
theorem smoke_w6 : (withTiming { Timing.tt1 with tSrqAssert := 25 }).w6 = false := by decide
theorem smoke_w7 : { Config.tc1 with pollGap := 157 }.w7 = false ∧ { Config.tc1 with pollGap := 156 }.wf = true := by
  decide
theorem smoke_w8 : { Config.tc1 with kbd := ⟨true, 0, 0x02, 0x6⟩ }.w8 = false := by decide
theorem smoke_w9_ratio : { Config.tc1 with coarseRatio := 1 }.w9 = false := by decide
theorem smoke_w9_gap : { Config.tc1 with pollGap := 0 }.w9 = false := by decide

/-- One failed check makes the whole check fail. -/
theorem smoke_wf_refuses :
    (withTiming { Timing.tt1 with tAttnMin := 0 }).wf = false ∧ (withTiming { Timing.tt1 with tReset := 35 }).wf = false ∧
    (withTiming { Timing.tt1 with tSyncMin := 90 }).wf = false ∧
    (withTiming { Timing.tt1 with tBitLowMin := 50 }).wf = false ∧
    (withTiming { Timing.tt1 with tBitShort := 65 }).wf = false ∧
    (withTiming { Timing.tt1 with tSrqAssert := 25 }).wf = false ∧ { Config.tc1 with pollGap := 157 }.wf = false ∧
    { Config.tc1 with kbd := ⟨true, 0, 0x02, 0x6⟩ }.wf = false ∧ { Config.tc1 with coarseRatio := 1 }.wf = false := by
  decide

/-- An absent class needs no legal default address (W8). -/
theorem smoke_w8_absent : { Config.tc1 with kbd := ⟨false, 0, 0x02, 0x6⟩ }.wf = true := by decide

theorem smoke_refused :
    step { State.reset with cfg := { Config.tc1 with coarseRatio := 1 } } = .refused .illFormedConfiguration := by
  rfl

/-! ## A small machine: TC1 with durations of a few ticks -/

/-- Low envelope 2 to 5, split at 4; a 1 is low 3 and high 5; `T_RESET` is 8 fine ticks, `T_ATTN_MIN` 4. -/
def tinyTiming : Timing where
  tAttnMin := 2
  tReset := 4
  tSyncMin := 2
  tSyncMax := 4
  tBitLowMin := 2
  tBitLowMax := 6
  tBitSplit := 4
  tBitHighMax := 6
  tBitShort := 3
  tBitLong := 5
  tSrqAssert := 2
  tSrqCeil := 4
  tTlt := 2
  tListenStart := 3
  tListenResync := 6

def tinyCfg : Config := { Config.tc1 with timingFull := tinyTiming, coarseRatio := 2 }

theorem tinyCfg_wf : tinyCfg.wf = true := by decide

/-- The small machine in engine state `e`, the line to come being `env`. -/
def tinyAt (e : EngineState) (env : List Bool) : State :=
  { State.reset with cfg := tinyCfg, state := e, env := env }

/-- The keyboard's registers with the queue `q` at head 0. -/
def queued (q : Vector Byte 16) (n : Nat) : Keyboard := ⟨q, 0, n, 0, 0⟩

/-- The queue {0x41}. -/
def queue41 : Keyboard := queued #v[0x41, 0, 0, 0, 0, 0, 0, 0, 0, 0, 0, 0, 0, 0, 0, 0] 1

/-- The small machine at DISPATCH with the register file `r` and the command byte `w`. -/
def tinyFetch (r : RegFile) (env : List Bool) (w : Nat) : State :=
  State.withFetchWord { tinyAt .idle env with regs := r } 8 w

/-- The register file after reset. -/
def regs0 : RegFile := State.reset.regs

/-- The state an outcome goes on with. -/
def nextOf : Host.Outcome State Fault Refusal → Option State
  | .next t => some t
  | .fault _ => none
  | .refused _ => none

/-- The state one step leads to; the state itself where the step stops. -/
def after (s : State) : State := (nextOf (step s)).getD s

theorem step_after {s : State} (h : (nextOf (step s)).isSome = true) : step s = .next (after s) := by
  unfold after
  cases hs : step s <;> simp_all [nextOf]

theorem exec_goes_on {s : State} {i : Instr} (h : (nextOf (exec i s)).isSome = true) : ∃ t, exec i s = .next t := by
  cases hs : exec i s <;> simp_all [nextOf]

/-- What a step says of its transaction. -/
def verdict (s : State) : Option (TxOutcome × EngineState × Bool) :=
  (nextOf (step s)).map fun t => (t.outcome, t.state, t.drive)

/-- The lengths of CORE's own lows, from the line history, the oldest first. -/
def lows : List (Nat × Bool) → List Nat
  | (b, false) :: (a, true) :: rest => lows rest ++ [b - a]
  | _ => []

/-- The host's bits in the small machine: a 1 is low 3, high 5; a 0 the other way round (R49). -/
def hostBit (b : Bool) : List Bool :=
  if b then [true, true, true, false, false, false, false, false]
  else [true, true, true, true, true, false, false, false]

/-- A Listen's host frame: two ticks of gap, start bit, payload, the stop bit's low (R54). -/
def hostFrame (d : List Byte) : List Bool :=
  [false, false] ++ hostBit true ++ (d.flatMap bitsMsb).flatMap hostBit ++ [true, true, true, true, true]

/-! ## One step per command, results from 95_test_vectors.md -/

/-- §3.3: queue {0x41}, cmd 0x2C sends 41 FF and leaves the queue empty (S6). -/
theorem test_talkR0_keyboard :
    let t := after (tinyFetch { regs0 with kbd := queue41 } [] 0x2C)
    t.outcome = .talkOk ∧ t.regs.kbd.size = 0 ∧ t.regs.kbd.head = 1 ∧
      lows t.lineOut = [3, 5, 3, 5, 5, 5, 5, 5, 3, 3, 3, 3, 3, 3, 3, 3, 3, 5] := by
  decide +kernel

/-- §3.4: acc (200, −3), buttons 01 / 00 sends 7D BF and leaves acc (137, 0). -/
theorem test_talkR0_mouse :
    let t := after (tinyFetch { regs0 with mouse := ⟨200, -3, 1, 0, 0, 0⟩ } [] 0x3C)
    t.outcome = .talkOk ∧ t.regs.mouse.accX = 137 ∧ t.regs.mouse.accY = 0 ∧ t.regs.mouse.repButtons = 1 ∧
      lows t.lineOut = [3, 5, 3, 3, 3, 3, 3, 5, 3, 3, 5, 3, 3, 3, 3, 3, 3, 5] := by
  decide +kernel

/-- §3.3: 0x2D has no data in any state. -/
theorem test_talkR1 :
    verdict (tinyFetch { regs0 with kbd := queue41 } [] 0x2D) = some (.talkNoData, .idle, false) ∧
      (after (tinyFetch { regs0 with kbd := queue41 } [] 0x2D)).lineOut = [] := by
  decide +kernel

/-- §3.3: kr2 = 0xFF7F, cmd 0x2E sends FF 7F. -/
theorem test_talkR2_keyboard :
    lows (after (tinyFetch { regs0 with kbd := regs0.kbd.setR2 0xFF7F } [] 0x2E)).lineOut =
      [3, 3, 3, 3, 3, 3, 3, 3, 3, 5, 3, 3, 3, 3, 3, 3, 3, 5] := by
  decide +kernel

/-- §3.3: arbitrary register 2 not set, cmd 0x4E has no data. -/
theorem test_talkR2_unset : verdict (tinyFetch regs0 [] 0x4E) = some (.talkNoData, .idle, false) := by decide +kernel

/-- §3.3: defaults, cmd 0x2F sends 62 02. -/
theorem test_talkR3 :
    lows (after (tinyFetch regs0 [] 0x2F)).lineOut = [3, 5, 3, 3, 5, 5, 5, 3, 5, 5, 5, 5, 5, 5, 5, 3, 5, 5] := by
  decide +kernel

/-- S5: another device falls within the turnaround of cmd 0x2F. -/
theorem test_talkR3_collision :
    let t := after (tinyFetch regs0 [false, false, false, true] 0x2F)
    t.outcome = .error .tlt ∧ t.ids.kbd = ⟨2, 0x02, true⟩ ∧ t.lineOut = [] := by
  decide +kernel

/-- §3.3: 0x28 with AA 55 leaves the keyboard unchanged. -/
theorem test_listenR0 :
    let t := after (tinyFetch regs0 (hostFrame [0xAA, 0x55]) 0x28)
    t.outcome = .listenOk ∧ t.regs = regs0 ∧ t.ids = State.reset.ids := by
  decide +kernel

/-- §3.3: 0x39 with 00 01 leaves the mouse unchanged. -/
theorem test_listenR1 :
    let t := after (tinyFetch regs0 (hostFrame [0x00, 0x01]) 0x39)
    t.outcome = .listenOk ∧ t.regs = regs0 ∧ t.ids = State.reset.ids := by
  decide +kernel

/-- §3.3: 0x4A with 12 34 (S7). -/
theorem test_listenR2 :
    let t := after (tinyFetch regs0 (hostFrame [0x12, 0x34]) 0x4A)
    t.outcome = .listenOk ∧ t.regs.arb.r2val = 0x1234 ∧ t.regs.arb.r2set = true := by
  decide +kernel

/-- §3.3: 0x4A with one byte is too short. -/
theorem test_listenR2_short :
    let t := after (tinyFetch regs0 (hostFrame [0x12]) 0x4A)
    t.outcome = .error .listenShort ∧ t.regs = regs0 := by
  decide +kernel

/-- A fall at exactly `T_LISTEN_START` (6 ticks here) is too late (R69's tie rule), one tick before it is not: the line
then stays high and the second resync wait runs out (R92). -/
theorem test_listen_start_bound :
    verdict (tinyFetch regs0 (List.replicate 6 false ++ [true]) 0x4A) = some (.error .listenStart, .idle, false) ∧
    verdict (tinyFetch regs0 (List.replicate 5 false ++ [true]) 0x4A) = some (.error .listenResync, .idle, false) := by
  decide +kernel

/-- §3.3: 0x2B with 07 03 moves the keyboard to 7 with handler 3. -/
theorem test_listenR3 :
    (after (tinyFetch regs0 (hostFrame [0x07, 0x03]) 0x2B)).ids.kbd = ⟨7, 0x03, false⟩ := by
  decide +kernel

/-- §3.4: the collision flag set, 05 FE clears it and changes nothing else. -/
theorem test_listenR3_collision_ack :
    (Identity.update Config.tc1 [0x02, 0x03] 0x05 0xFE ⟨2, 0x02, true⟩) = ⟨2, 0x02, false⟩ ∧
    (Identity.update Config.tc1 [0x02, 0x03] 0x05 0xFE ⟨2, 0x02, false⟩) = ⟨5, 0x02, false⟩ := by
  decide

/-- §3.3: queue {0x41}, cmd 0x21 empties it; the address stays. -/
theorem test_flush_keyboard :
    let t := after (tinyFetch { regs0 with kbd := queue41.setR2 0x1234 } [] 0x21)
    t.outcome = .flushed ∧ t.regs = regs0 ∧ t.ids = State.reset.ids := by
  decide +kernel

/-- §3.3: cmd 0x41 leaves the arbitrary class not ready and not set. -/
theorem test_flush_arbitrary :
    (after (tinyFetch { regs0 with arb := (regs0.arb.writeR2 0xBEEF).loadR0 [0xDE] |>.1 } [] 0x41)).regs = regs0 := by
  decide +kernel

/-- §3.2: 0x20, 0x22, 0x23, 0x26 are RESERVED; 0x5C addresses nothing. -/
theorem test_rsv0 : verdict (tinyFetch regs0 [] 0x20) = some (.reserved, .idle, false) := by decide +kernel
theorem test_rsv2 : verdict (tinyFetch regs0 [] 0x22) = some (.reserved, .idle, false) := by decide +kernel
theorem test_rsv3 : verdict (tinyFetch regs0 [] 0x23) = some (.reserved, .idle, false) := by decide +kernel
theorem test_rsv4 : verdict (tinyFetch regs0 [] 0x26) = some (.reserved, .idle, false) := by decide +kernel
theorem test_not_addressed : verdict (tinyFetch regs0 [] 0x5C) = some (.notAddressed, .idle, false) := by
  decide +kernel

/-- The first instruction after reset, as the host places it. -/
theorem test_fetch_from_reset : verdict (State.reset.withFetchWord 8 0x2C) = some (.talkNoData, .idle, false) := by
  decide +kernel

/-! ## The engine's states at their bounds (95 §3.2, scaled to the small machine) -/

/-- The low times 8 (`T_RESET`), 7, 4 (`T_ATTN_MIN`) and 3 of CLASSIFY. -/
theorem test_classify_bounds :
    verdict (tinyAt .classify (List.replicate 8 true)) = some (.reset, .idle, false) ∧
    verdict (tinyAt .classify (List.replicate 7 true)) = some (.none, .sync, false) ∧
    verdict (tinyAt .classify (List.replicate 4 true)) = some (.none, .sync, false) ∧
    verdict (tinyAt .classify (List.replicate 3 true)) = some (.spurious, .idle, false) := by
  decide +kernel

/-- The high times 1, 2 (`T_SYNC_MIN`), 3 and 4 (`T_SYNC_MAX`) of SYNC. -/
theorem test_sync_bounds :
    verdict (tinyAt .sync [false, true]) = some (.error .syncWindow, .idle, false) ∧
    verdict (tinyAt .sync [false, false, true]) = some (.none, .command, false) ∧
    verdict (tinyAt .sync [false, false, false, true]) = some (.none, .command, false) ∧
    verdict (tinyAt .sync [false, false, false, false, true]) = some (.error .syncWindow, .idle, false) := by
  decide +kernel

/-- The first cell's low of 1, 6 (`T_BIT_LOW_MAX`), and a high of 6 (`T_BIT_HIGH_MAX`). -/
theorem test_command_cell_bounds :
    verdict (tinyAt .command [true, false]) = some (.error .rbLowShort, .idle, false) ∧
    verdict (tinyAt .command (List.replicate 6 true)) = some (.error .rbLowLong, .idle, false) ∧
    verdict (tinyAt .command (List.replicate 5 true ++ List.replicate 6 false ++ [true])) =
      some (.error .rbHighLong, .idle, false) := by
  decide +kernel

/-- A cell exactly at the split is a 0, one tick below it a 1 (95 §3.1): lows 3 and 4 in turn give 0xAA. -/
theorem test_command_split :
    (after (tinyAt .command
      ((List.replicate 4 (List.replicate 3 true ++ [false] ++ List.replicate 4 true ++ [false])).flatten ++
        [true]))).tx.cmd = 0xAA := by
  decide +kernel

/-- The small machine at SRQ with `w` in `cmd`. -/
def tinySrq (r : RegFile) (env : List Bool) (w : Byte) : State :=
  { (tinyAt .srq env).setCmd w with regs := r }

/-- 95 §3.2: KBD pending, cmd 0x3C: CORE holds from the fall to `T_SRQ_ASSERT` (4 ticks here). -/
theorem test_srq_request :
    let t := after (tinySrq { regs0 with kbd := queue41 } [true, true] 0x3C)
    t.state = .dispatch ∧ t.lineOut = [(4, false), (0, true)] ∧ t.timer = ⟨.coarse, 4, true⟩ := by
  decide +kernel

/-- 95 §3.2: KBD pending, cmd 0x2C: the target is masked; the line's own release passes, and 8 ticks of low
(`T_SRQ_CEIL`) abort. -/
theorem test_srq_masked_and_ceiling :
    (after (tinySrq { regs0 with kbd := queue41 } [true, true] 0x2C)).lineOut = [] ∧
    verdict (tinySrq { regs0 with kbd := queue41 } (List.replicate 7 true) 0x2C) = some (.none, .dispatch, false) ∧
    verdict (tinySrq { regs0 with kbd := queue41 } (List.replicate 8 true) 0x2C) =
      some (.error .srqCeil, .idle, false) ∧
    verdict (tinySrq { regs0 with kbd := queue41 } [] 0x3C) = some (.error .srqReleased, .idle, false) := by
  decide +kernel

/-! ## Registers, buffer and port (95 §2, §3.4 to §3.6) -/

/-- S1. -/
theorem test_peek :
    regs0.kbd.peekPair = 0xFFFF ∧
    (queued #v[0xAB, 0, 0, 0, 0, 0, 0, 0, 0, 0, 0, 0, 0, 0, 0, 0] 1).peekPair = 0xABFF ∧
    (queued #v[0x01, 0x02, 0, 0, 0, 0, 0, 0, 0, 0, 0, 0, 0, 0, 0, 0] 2).peekPair = 0x0102 := by
  decide

/-- S2 and §3.5: sizes 15, 13 and 14, and a single push onto 16. -/
theorem test_push :
    ((queued regs0.kbd.kq 15).pushPair 0x12 0x92).2 = .refused ∧
    ((queued regs0.kbd.kq 13).pushPair 0x12 0x92).1.entries.drop 13 = [0xFF, 0x12, 0x92] ∧
    ((queued regs0.kbd.kq 14).pushPair 0x12 0x92).1.entries.drop 14 = [0x12, 0x92] ∧
    ((queued regs0.kbd.kq 16).pushSingle 0x41).2 = .dropped := by
  decide

/-- S3 and §3.5: drains at the ring's end. -/
theorem test_drain :
    ((queue41.drain 2).size = 1 ∧ (queue41.drain 2).head = 0) ∧
    (({ queued regs0.kbd.kq 3 with head := 15 }.drain 2).head = 1) ∧
    (({ queued regs0.kbd.kq 7 with head := 5 }.drain 7).size = 5) := by
  decide

/-- §3.4: (−200, 64) is reported as BF C0. -/
theorem test_mouse_bytes : mouseByte false 63 = 0xBF ∧ mouseByte false (-64) = 0xC0 ∧ mouseByte true (-3) = 0x7D := by
  decide

/-- §3.6: the accumulators saturate, button values past the mask and lengths 0 and 9 are refused. -/
theorem test_ingest :
    (({ regs0 with mouse := ⟨16380, -16380, 0, 0, 0, 0⟩ }.ingest Config.tc1 (.mouseMove 10 (-100))).1.mouse.accX = 16383) ∧
    (({ regs0 with mouse := ⟨16380, -16380, 0, 0, 0, 0⟩ }.ingest Config.tc1 (.mouseMove 10 (-100))).1.mouse.accY =
      -16384) ∧
    regs0.ingest Config.tc1 (.mouseButtons 4) = (regs0, .refused) ∧
    regs0.ingest Config.tc1 (.arbLoadR0 []) = (regs0, .refused) ∧
    regs0.ingest Config.tc1 (.arbLoadR0 (List.replicate 9 0)) = (regs0, .refused) ∧
    (regs0.ingest Config.tc1 (.arbLoadR0 [0xDE, 0xAD, 0xBE])).1.arb.r0len = 3 := by
  decide

/-- §3.1: the counter started at 1000 in coarse ticks of 16. -/
theorem test_counter :
    ({ State.reset with now := 1000 }.startTimerNow .coarse |>.advance 15).count = 0 ∧
    ({ State.reset with now := 1000 }.startTimerNow .coarse |>.advance 16).count = 1 ∧
    ({ State.reset with now := 1000 }.startTimerNow .coarse |>.advance 40).count = 2 ∧
    (State.reset.startTimerNow .fine |>.advance 256).count = 0 := by
  decide

/-- R130, R128: an ingest point at which INGEST performs nothing is one with NOP, whose result is OK. -/
theorem test_ingest_point_nop :
    State.reset.ingestPoint.ingestOut = [.ok] ∧ State.reset.ingestPoint.regs = regs0 ∧
    { State.reset with ingestIn := [.nop, .arbR0Status] }.ingestPoint.ingestPoint.ingestOut = [.status false, .ok] := by
  decide

/-- The small machine with `POLL_GAP = 3`, a poll at this tick, and the spacings `g` to come. -/
def tinySpaced (g : List Nat) : State :=
  { tinyAt .talk [] with cfg := { tinyCfg with pollGap := 3 }, gaps := g }.markPoll

/-- R68: from `Drive(0)` to the `TimerStart` and from there to the poll, 3 ticks each; R11: from a poll to the next one
at most 3, a `TimerStart` between them or not. -/
theorem test_spacing_bounds :
    (((tinySpaced [0, 3, 3]).driveLine false).timerStart .fine).pollLine.1.now = 6 ∧
    ((tinySpaced [2, 9]).timerStart .fine).pollLine.1.now = 3 ∧ (tinySpaced [9]).pollLine.1.now = 3 := by
  decide

/-- R71 with `H = 3` and `POLL_GAP = 3`: `Drive(1)` 3 ticks after the timer's start, and the hold ends 5 after it. -/
theorem test_hold_bound :
    (holdUntil 3 true (((tinySpaced [0, 3, 3]).timerStart .fine).driveLine true)).now = 5 := by
  decide +kernel

/-- R165 with `POLL_GAP = 3`: the line already low when a fine timer starts gives at most 2; CORE's release 5 fine ticks
after the start of a coarse timer (2 ticks) gives at most `floor((5 + 2) / 2) = 3`. -/
theorem test_measure_bound :
    (waitAssert 9 .fine { tinySpaced [0, 3] with env := List.replicate 9 true }).2 = 2 ∧
    (pollUntil false 9 true { (tinySpaced [3]).startTimerNow .coarse |>.advance 5 with slack := 3 }).2 = 3 := by
  decide +kernel

/-- R165 with `POLL_GAP = 1`: no time is left, and the wait reads 0 at the tick of the hold's last poll (R73). -/
theorem test_measure_bound_tight :
    (waitAssert 9 .fine ({ tinyAt .talk (List.replicate 9 true) with gaps := [0, 1, 1] }.markPoll)).2 = 0 := by
  decide +kernel

/-- The small machine in SRQ with `POLL_GAP = 100`, `T_SRQ_ASSERT = 205` and `T_SRQ_CEIL = 206`, which W7 allows. -/
def slowSrq (g : List Nat) : State :=
  { tinySrq { regs0 with kbd := queue41 } [true] 0x3C with
    cfg := { tinyCfg with pollGap := 100, timingFull := { tinyTiming with tSrqAssert := 205, tSrqCeil := 206 } }
    gaps := g
    slack := 100 }

/-- R69: the ceiling's first poll reads 255 and not a wrapped count, however late the release is put. -/
theorem test_srq_no_wrap :
    verdict (slowSrq [0, 0, 0, 100, 100, 100, 100, 100, 100, 100]) = some (.error .srqCeil, .idle, false) ∧
    (after (slowSrq [0, 0, 0, 100, 100, 100, 100, 100, 100, 100])).now = 511 := by
  decide +kernel

/-- R68, R40: one poll at a tick, with one ingest point, whichever of the steps at that tick takes it. -/
theorem test_one_poll_per_tick :
    (((tinyAt .talk []).waitPoll true).waitPoll true).ingestOut = [.ok] ∧
    ((tinyAt .talk []).pollLine.1.waitPoll true).ingestOut = [.ok] ∧
    (((tinyAt .talk []).waitPoll true).pollLine.1.waitPoll true).ingestOut = [.ok] := by
  decide

/-- R68: a chosen spacing puts the next poll at a later tick, also where a `TimerStart` stands between the two. -/
theorem test_spacing_polls_apart :
    (tinySpaced [0]).pollLine.1.now = 1 ∧ ((tinySpaced [0, 0]).timerStart .fine).pollLine.1.now = 1 := by
  decide

/-! ## Witnesses: states and operands that meet each obligation's hypotheses -/

theorem tiny_ranges : MouseRanges tinyCfg := ⟨by decide, by decide, by decide, by decide⟩

theorem tiny_mouse : MouseInRange tinyCfg regs0.mouse := ⟨by decide, by decide, by decide, by decide⟩

theorem reset_addr (k : DevClass) : (State.reset.ids.get k).addr ≠ 0#4 := by cases k <;> decide

/-- The small machine outside DISPATCH, TALK and LISTEN meets the invariant. -/
theorem tinyAt_inv (e : EngineState) (env : List Bool) (ht : e ≠ .talk) (hl : e ≠ .listen) (hd : e ≠ .dispatch) :
    (tinyAt e env).Inv where
  config := tinyCfg_wf
  ranges := tiny_ranges
  addr := fun k _ => reset_addr k
  handler := by intro k _; cases k <;> exact .inl rfl
  queue := Nat.zero_le _
  len := Nat.zero_le _
  r0len := Nat.zero_le _
  drainKbd := Nat.zero_le _
  ready := fun h => Bool.noConfusion h
  target := by intro k; cases k <;> exact fun h => Bool.noConfusion h
  mouse := tiny_mouse
  released := rfl
  notTalk := ht
  notListen := hl
  paced := Nat.le_refl 1
  latched := fun h => absurd h hd

/-- The keyboard's collision flag of the small machine. -/
def withFlag (c : Bool) (s : State) : State := s.setCollision .kbd c

/-- The small machine at DISPATCH with a command to the keyboard meets the invariant, its collision flag set or not. -/
theorem tinyFetch_inv (c : Bool) (env : List Bool) (w : Nat) (hw : fieldA (BitVec.ofNat 8 (w % 2 ^ 8)) = 2#4) :
    (withFlag c (tinyFetch regs0 env w)).Inv := by
  have hm : (tinyAt .idle env).matchMask 2#4 = ClassMask.onehot .kbd := rfl
  have ht : (withFlag c (tinyFetch regs0 env w)).tx.target = ClassMask.onehot .kbd := by
    rw [← hm, ← hw]; rfl
  exact {
    config := tinyCfg_wf
    ranges := tiny_ranges
    addr := by
      intro k
      cases k
      exacts [fun _ => reset_addr .kbd, fun _ => reset_addr .mouse, fun _ => reset_addr .arb]
    handler := by intro k _; cases k <;> exact .inl rfl
    queue := Nat.zero_le _
    len := Nat.zero_le _
    r0len := Nat.zero_le _
    drainKbd := Nat.zero_le _
    ready := fun h => Bool.noConfusion h
    target := by
      intro k hk
      rw [ht] at hk ⊢
      rw [ClassMask.onehot_get_iff] at hk
      subst hk
      exact ⟨rfl, rfl⟩
    mouse := tiny_mouse
    released := rfl
    notTalk := fun h => EngineState.noConfusion h
    notListen := fun h => EngineState.noConfusion h
    paced := Nat.le_refl 1
    latched := fun _ => by
      rw [ht]
      show ClassMask.onehot .kbd = (withFlag c (tinyFetch regs0 env w)).matchMask (fieldA (BitVec.ofNat 8 (w % 2 ^ 8)))
      rw [hw]; rfl }

/-- The small machine at DISPATCH stands at the start of Tlt. -/
theorem tinyFetch_atTltStart (r : RegFile) (env : List Bool) (w : Nat) : (tinyFetch r env w).atTltStart :=
  ⟨tinyCfg_wf, rfl, rfl⟩

/-- A line nobody else drives, in both forms a state can give it. -/
theorem quiet_nil (s : State) (h : s.env = []) : s.quiet := by simp [State.quiet, h]

theorem quiet_replicate (s : State) (n : Nat) (h : s.env = List.replicate n false) : s.quiet := by
  simp [State.quiet, h]

theorem witness_DecodeOfEncode : (Instr.talkR0 0).wf = true ∧ (Instr.rsv4 15 3).wf = true := by decide

theorem witness_StepRunsFetchedCommand : ∃ (s : State) (i : Instr),
    s.cfg.wf = true ∧ noPowerOnDue s ∧ s.state = .dispatch ∧ decode [s.tx.cmd] = .ok (i, []) ∧ i.wf = true :=
  ⟨tinyFetch regs0 [] 0x2C, .talkR0 2, tinyCfg_wf, .inl rfl, rfl, rfl, rfl⟩

theorem witness_StepLeavesConfiguration : ∃ s t : State, step s = .next t :=
  ⟨tinyAt .idle [], _, step_after (by decide +kernel)⟩

theorem witness_StepKeepsInv :
    (∃ s t : State, s.state = .srq ∧ s.Inv ∧ step s = .next t) ∧
    (∃ s t : State, s.state = .dispatch ∧ s.Inv ∧ step s = .next t) :=
  ⟨⟨tinyAt .srq [true], _, rfl, tinyAt_inv _ _ (by decide) (by decide) (by decide), step_after (by decide +kernel)⟩,
   ⟨withFlag false (tinyFetch regs0 [] 0x2F), _, rfl, tinyFetch_inv _ _ _ rfl, step_after (by decide +kernel)⟩⟩

theorem witness_StepGoesOnFromInv : ∃ s : State, s.Inv :=
  ⟨tinyAt .sync [], tinyAt_inv _ _ (by decide) (by decide) (by decide)⟩

/-- The small machine without the arbitrary class. -/
def tinyNoArb : State := { tinyAt .idle [] with cfg := { tinyCfg with arb := { tinyCfg.arb with present := false } } }

/-- Both sides of R157's "present" meet a class. -/
theorem witness_DeviceResetRestoresDefaults :
    tinyNoArb.cfg.present .kbd = true ∧ tinyNoArb.cfg.present .mouse = true ∧ tinyNoArb.cfg.present .arb = false := by
  decide

theorem witness_PowerOnBeforeFirstTransaction : ∃ s : State, s.cfg.wf = true ∧ s.resetEntry = true ∧ s.begun = false :=
  ⟨{ tinyAt .idle [] with resetEntry := true }, tinyCfg_wf, rfl, rfl⟩

/-- A poll of a low line and one of a released line, at a tick whose ingest point has taken place and at one whose has
not. -/
theorem witness_IdlePollsUntilAsserted : ∀ b i, ∃ s : State,
    s.cfg.wf = true ∧ noPowerOnDue s ∧ s.state = .idle ∧ s.gaps = [] ∧ s.line = b ∧ s.ingestedNow = i :=
  fun b i => ⟨{ tinyAt .idle [b] with ingestedNow := i }, tinyCfg_wf, .inl rfl, rfl, rfl, rfl, rfl⟩

/-- Lows of every length, those at the bounds of `test_classify_bounds` among them. -/
theorem witness_ClassifyByLowLength : ∀ d, ∃ (s : State) (rest : List Bool),
    s.cfg.wf = true ∧ noPowerOnDue s ∧ s.state = .classify ∧ s.drive = false ∧ s.gaps = [] ∧
      s.env = List.replicate d true ++ false :: rest :=
  fun d => ⟨tinyAt .classify (List.replicate d true ++ [false]), [], tinyCfg_wf, .inl rfl, rfl, rfl, rfl, rfl⟩

/-- Highs of every length, those at the bounds of `test_sync_bounds` among them. -/
theorem witness_SyncByHighLength : ∀ d, ∃ (s : State) (rest : List Bool),
    s.cfg.wf = true ∧ noPowerOnDue s ∧ s.state = .sync ∧ s.drive = false ∧ s.gaps = [] ∧
      s.env = List.replicate d false ++ true :: rest :=
  fun d => ⟨tinyAt .sync (List.replicate d false ++ [true]), [], tinyCfg_wf, .inl rfl, rfl, rfl, rfl, rfl⟩

/-- Cells of 0xAA at the envelope's bounds: a 1 is low 2 or 3, a 0 is low 4 or 5; highs from 1 to 5. -/
def boundCells : List (Nat × Nat) := [(2, 1), (4, 5), (3, 5), (5, 1), (2, 5), (5, 5), (3, 1), (4, 1)]

theorem witness_CommandReadsByteFromCells : ∃ (s : State) (v : Byte) (cells : List (Nat × Nat)) (rest : List Bool),
    s.cfg.wf = true ∧ noPowerOnDue s ∧ s.state = .command ∧ s.drive = false ∧ s.gaps = [] ∧
      cellsCarry s.cfg.timing cells (bitsMsb v) = true ∧ s.env = cellsWave cells ++ true :: rest :=
  ⟨tinyAt .command (cellsWave boundCells ++ [true]), 0xAA, boundCells, [], tinyCfg_wf, .inl rfl, rfl, rfl, rfl,
    by decide, rfl⟩

/-- The three clauses at their bounds, in the first cell and in the eighth: lows 6 and 1 (no low at all in the first
cell only), and lows of 2 and 5 with a high of 6. -/
theorem witness_CommandBitErrors :
    ∀ p ∈ [(0, 6, 1), (0, 1, 1), (0, 0, 1), (0, 2, 6), (0, 5, 6), (7, 6, 1), (7, 1, 1), (7, 2, 6), (7, 5, 6)],
    ∃ (s : State) (cells : List (Nat × Nat)) (bits : List Bool) (rest : List Bool),
      s.cfg.wf = true ∧ noPowerOnDue s ∧ s.state = .command ∧ s.drive = false ∧ s.gaps = [] ∧
      cellsCarry s.cfg.timing cells bits = true ∧ cells.length ≤ 7 ∧ cells.length = p.1 ∧
      (cells = [] ∨ 1 ≤ p.2.1) ∧ 1 ≤ p.2.2 ∧
      s.env = cellsWave cells ++ List.replicate p.2.1 true ++ List.replicate p.2.2 false ++ rest ∧
      (s.cfg.timing.tBitLowMin ≤ p.2.1 → p.2.1 < s.cfg.timing.tBitLowMax → s.cfg.timing.tBitHighMax ≤ p.2.2) := by
  intro p hp
  refine ⟨tinyAt .command (cellsWave (boundCells.take p.1) ++ List.replicate p.2.1 true ++
      List.replicate p.2.2 false ++ []), boundCells.take p.1, (bitsMsb 0xAA).take p.1, [], tinyCfg_wf, .inl rfl, rfl,
    rfl, rfl, ?_, ?_, ?_, ?_, ?_, rfl, ?_⟩
  · show cellsCarry tinyTiming _ _ = true
    revert p; decide
  · revert p; decide
  · revert p; decide
  · revert p; decide
  · revert p; decide
  · show 2 ≤ p.2.1 → p.2.1 < 6 → 6 ≤ p.2.2
    revert p; decide

theorem witness_FirstMatchAnswers :
    (∃ s : State, s.Inv) ∧ (tinyAt .idle []).matchClass 4#4 = some .arb ∧ (tinyAt .idle []).matchClass 5#4 = none :=
  ⟨witness_StepGoesOnFromInv, rfl, rfl⟩

/-- The mask of SRQ does not depend on the line. -/
theorem tinySrq_mask (r : RegFile) (env : List Bool) (w : Byte) :
    (tinySrq r env w).needsService.andNot ((tinySrq r env w).matchMask (fieldA (tinySrq r env w).tx.cmd)) =
      (tinySrq r [] w).needsService.andNot ((tinySrq r [] w).matchMask (fieldA w)) := by
  rw [State.matchMask_congr (s := tinySrq r [] w) (t := tinySrq r env w) rfl rfl]
  rfl

/-- The keyboard's request while the keyboard is addressed is masked; while the mouse is, it is due. -/
theorem tinySrq_request (env : List Bool) :
    (let s := tinySrq { regs0 with kbd := queue41 } env 0x2C
     s.needsService.andNot (s.matchMask (fieldA s.tx.cmd)) = ClassMask.zero) ∧
    (let s := tinySrq { regs0 with kbd := queue41 } env 0x3C
     s.needsService.andNot (s.matchMask (fieldA s.tx.cmd)) ≠ ClassMask.zero) := by
  simp only [tinySrq_mask]
  decide

/-- Lows of every length, among them 7 (passes) and 8 (`T_SRQ_CEIL`): see `test_srq_masked_and_ceiling`. -/
theorem witness_SrqWithoutRequest : ∀ d, ∃ (s : State) (rest : List Bool),
    s.cfg.wf = true ∧ noPowerOnDue s ∧ s.state = .srq ∧ s.drive = false ∧ s.gaps = [] ∧
      s.needsService.andNot (s.matchMask (fieldA s.tx.cmd)) = ClassMask.zero ∧
      s.env = List.replicate d true ++ false :: rest :=
  fun d => ⟨tinySrq { regs0 with kbd := queue41 } (List.replicate d true ++ [false]) 0x2C, [], tinyCfg_wf, .inl rfl,
    rfl, rfl, rfl, (tinySrq_request _).1, rfl⟩

/-- Lows of every length from 1, among them 7 (passes) and 8 (`T_SRQ_CEIL`). -/
theorem witness_SrqRequestHoldsLine : ∀ d, 1 ≤ d → ∃ (s : State) (rest : List Bool),
    s.cfg.wf = true ∧ noPowerOnDue s ∧ s.state = .srq ∧ s.drive = false ∧ s.gaps = [] ∧
      s.needsService.andNot (s.matchMask (fieldA s.tx.cmd)) ≠ ClassMask.zero ∧ 1 ≤ d ∧
      s.env = List.replicate d true ++ rest ∧ (∀ b ∈ rest, b = false) :=
  fun d hd => ⟨tinySrq { regs0 with kbd := queue41 } (List.replicate d true ++ [false]) 0x3C, [false], tinyCfg_wf,
    .inl rfl, rfl, rfl, rfl, (tinySrq_request _).2, hd, rfl, by decide⟩

/-- The line low at the fall that COMMAND saw, and released one tick later, where the decision poll falls. -/
theorem witness_SrqRequestTooLate : ∃ s : State,
    s.cfg.wf = true ∧ noPowerOnDue s ∧ s.state = .srq ∧ s.line = true ∧ s.slack ≤ s.cfg.pollGap ∧
      s.needsService.andNot (s.matchMask (fieldA s.tx.cmd)) ≠ ClassMask.zero ∧ (srqStart s).pollLine.2 = false := by
  refine ⟨{ (tinySrq { regs0 with kbd := queue41 } [true] 0x3C).markPoll with gaps := [0, 1] }, tinyCfg_wf, .inl rfl,
    rfl, rfl, Nat.le_refl _, ?_, by decide +kernel⟩
  exact (tinySrq_request [true]).2

theorem witness_UnaddressedCommandEnds : ∃ (i : Instr) (s : State), s.drive = false ∧ s.matchClass i.addr = none :=
  ⟨.flush 5, tinyAt .dispatch [], rfl, rfl⟩

/-- Each class has an address that selects it. -/
theorem witness_FlushClearsAddressedClass : ∀ k, ∃ (s : State) (a : BusAddr),
    s.drive = false ∧ s.matchClass a = some k := by
  intro k
  cases k
  · exact ⟨tinyAt .dispatch [], 2, rfl, rfl⟩
  · exact ⟨tinyAt .dispatch [], 3, rfl, rfl⟩
  · exact ⟨tinyAt .dispatch [], 4, rfl, rfl⟩

theorem witness_ReservedCommandsDoNothing : ∀ k, ∃ (s : State) (a : BusAddr),
    s.drive = false ∧ s.matchClass a = some k := witness_FlushClearsAddressedClass

/-- Every way of having no data, at reset. -/
theorem witness_TalkWithoutDataIsSilent :
    ∀ p ∈ [(DevClass.kbd, 2#4, 1#2), (.kbd, 2#4, 0#2), (.mouse, 3#4, 0#2), (.mouse, 3#4, 2#2), (.arb, 4#4, 0#2),
      (.arb, 4#4, 2#2)],
      (tinyAt .dispatch []).drive = false ∧ (tinyAt .dispatch []).matchClass p.2.1 = some p.1 ∧
        noTalkData (tinyAt .dispatch []) p.1 p.2.2 := by
  unfold noTalkData; decide

theorem witness_TalkReg1AlwaysSilent : ∃ (s : State) (a : BusAddr) (k : DevClass),
    s.drive = false ∧ s.matchClass a = some k := ⟨tinyAt .dispatch [], 2, .kbd, rfl, rfl⟩

theorem witness_KeyboardTalkBytes :
    (∃ s : State, s.regs.kbd.size = 1) ∧ (∃ s : State, s.regs.kbd.size = 2) ∧ (∃ s : State, s.regs.kbd.size = 16) :=
  ⟨⟨tinyFetch { regs0 with kbd := queue41 } [] 0x2C, rfl⟩,
   ⟨tinyFetch { regs0 with kbd := queued regs0.kbd.kq 2 } [] 0x2C, rfl⟩,
   ⟨tinyFetch { regs0 with kbd := queued regs0.kbd.kq 16 } [] 0x2C, rfl⟩⟩

/-- The mouse with (200, −3) to report. -/
def movedMouse : RegFile := { regs0 with mouse := ⟨200, -3, 1, 0, 0, 0⟩ }

theorem witness_MouseTalkBytes : ∃ s : State,
    s.regs.mouse.repButtons ≠ s.regs.mouse.curButtons ∨ s.regs.mouse.accX ≠ 0 ∨ s.regs.mouse.accY ≠ 0 :=
  ⟨tinyFetch movedMouse [] 0x3C, .inl (by decide)⟩

/-- The arbitrary class with `n` bytes loaded and register 2 written. -/
def loadedArb (n : Nat) : RegFile := { regs0 with arb := ((regs0.arb.writeR2 0xBEEF).loadR0 (List.replicate n 0xDE)).1 }

theorem witness_ArbitraryTalkBytes : ∀ n ∈ [1, 8], ∃ s : State,
    s.regs.arb.r0ready = true ∧ s.regs.arb.r0len = n ∧ s.regs.arb.r0len ≤ 8 ∧ s.regs.arb.r2set = true := by
  intro n hn
  refine ⟨tinyFetch (loadedArb n) [] 0x4C, ?_⟩
  show (loadedArb n).arb.r0ready = true ∧ (loadedArb n).arb.r0len = n ∧ (loadedArb n).arb.r0len ≤ 8 ∧
    (loadedArb n).arb.r2set = true
  revert n; decide

/-- Two bytes (the identity register) and eight (arbitrary register 0), on a line with nobody else. -/
theorem witness_TalkSendsFrame :
    (∃ (s : State) (a : BusAddr) (k : DevClass) (r : RegNum), s.atTltStart ∧ s.gaps = [] ∧ s.quiet ∧
      s.matchClass a = some k ∧ (s.produce k r).tx.len = 2) ∧
    (∃ (s : State) (a : BusAddr) (k : DevClass) (r : RegNum), s.atTltStart ∧ s.gaps = [] ∧ s.quiet ∧
      s.matchClass a = some k ∧ (s.produce k r).tx.len = 8) :=
  ⟨⟨tinyFetch regs0 [] 0x2F, 2, .kbd, 3, tinyFetch_atTltStart .., rfl, quiet_nil _ rfl, rfl, rfl⟩,
   ⟨tinyFetch (loadedArb 8) (List.replicate 9 false) 0x4C, 4, .arb, 0, tinyFetch_atTltStart .., rfl,
     quiet_replicate _ 9 rfl, rfl, rfl⟩⟩

/-- Data in every class. -/
def busyRegs (n : Nat) : RegFile :=
  { kbd := queued regs0.kbd.kq n, mouse := movedMouse.mouse, arb := (loadedArb 8).arb }

/-- Another poll spacing, and INGEST at work: the register-0 Talk of each class, the keyboard's at both bounds of its
queue, and a Talk of another register. -/
theorem witness_TalkDrainsByRecord :
    ∀ p ∈ [(DevClass.kbd, 2#4, 0#2, 1), (.kbd, 2#4, 0#2, 16), (.kbd, 2#4, 2#2, 1), (.mouse, 3#4, 0#2, 1),
      (.arb, 4#4, 0#2, 1)], ∃ s : State,
      s.gaps = [1, 0, 1] ∧ s.ingestIn = [.kbdPushSingle 0x42] ∧ s.atTltStart ∧ s.quiet ∧
        s.matchClass p.2.1 = some p.1 ∧ 1 ≤ (s.produce p.1 p.2.2.1).tx.len ∧ (s.produce p.1 p.2.2.1).tx.len ≤ 8 ∧
        s.regs.kbd.size = p.2.2.2 ∧ s.regs.kbd.size ≤ 16 := by
  intro p hp
  refine ⟨{ tinyFetch (busyRegs p.2.2.2) [] 0x2C with gaps := [1, 0, 1], ingestIn := [.kbdPushSingle 0x42] },
    rfl, rfl, ⟨tinyCfg_wf, rfl, rfl⟩, quiet_nil _ rfl, ?_⟩
  show _ ∧ _ ∧ _ ∧ p.2.2.2 = p.2.2.2 ∧ p.2.2.2 ≤ 16
  revert p; decide

/-- Queue sizes 1, 2 and 16. -/
theorem witness_KeyboardTalkRemovesWhatWasSent : ∀ n ∈ [1, 2, 16], ∃ (s : State) (a : BusAddr),
    s.atTltStart ∧ s.quiet ∧ s.ingestIn = [] ∧ s.matchClass a = some .kbd ∧ s.regs.kbd.size = n ∧
      1 ≤ s.regs.kbd.size ∧ s.regs.kbd.size ≤ 16 := by
  intro n hn
  refine ⟨tinyFetch { regs0 with kbd := queued regs0.kbd.kq n } [] 0x2C, 2, tinyFetch_atTltStart .., quiet_nil _ rfl,
    rfl, rfl, rfl, ?_⟩
  show 1 ≤ n ∧ n ≤ 16
  revert n; decide

theorem witness_MouseTalkSubtractsWhatWasSent : ∃ (s : State) (a : BusAddr),
    s.atTltStart ∧ s.quiet ∧ s.ingestIn = [] ∧ s.matchClass a = some .mouse ∧ MouseRanges s.cfg ∧
      MouseInRange s.cfg s.regs.mouse ∧
      (s.regs.mouse.repButtons ≠ s.regs.mouse.curButtons ∨ s.regs.mouse.accX ≠ 0 ∨ s.regs.mouse.accY ≠ 0) :=
  ⟨tinyFetch movedMouse [] 0x3C, 3, tinyFetch_atTltStart .., quiet_nil _ rfl, rfl, rfl,
    ⟨by decide, by decide, by decide, by decide⟩, ⟨by decide, by decide, by decide, by decide⟩, .inl (by decide)⟩

/-- The three clauses: the arbitrary class with 1 and with 8 bytes and register 2 set, and the keyboard. -/
theorem witness_ArbitraryAndStatusTalks :
    (∀ n ∈ [1, 8], ∃ s : State, s.atTltStart ∧ s.quiet ∧ s.ingestIn = [] ∧ s.matchClass 4#4 = some .arb ∧
      s.regs.arb.r0ready = true ∧ s.regs.arb.r0len = n ∧ s.regs.arb.r2set = true) ∧
    (∃ s : State, s.atTltStart ∧ s.quiet ∧ s.ingestIn = [] ∧ s.matchClass 2#4 = some .kbd) := by
  refine ⟨fun n hn => ⟨tinyFetch (loadedArb n) [] 0x4C, tinyFetch_atTltStart .., quiet_nil _ rfl, rfl, rfl, ?_⟩,
    ⟨tinyFetch regs0 [] 0x2E, tinyFetch_atTltStart .., quiet_nil _ rfl, rfl, rfl⟩⟩
  show (loadedArb n).arb.r0ready = true ∧ (loadedArb n).arb.r0len = n ∧ (loadedArb n).arb.r2set = true
  revert n; decide

/-- A fall at once and one in the last tick before `T_TLT` (4 fine ticks), for registers 3 and 2. -/
theorem witness_TurnaroundCollision :
    ∀ p ∈ [(0, 3#2), (3, 3#2), (0, 2#2), (3, 2#2)], ∃ (s : State) (rest : List Bool),
      s.atTltStart ∧ s.gaps = [] ∧ s.matchClass 2#4 = some .kbd ∧ 1 ≤ (s.produce .kbd p.2).tx.len ∧
        p.1 < s.cfg.timing.tTlt * s.cfg.coarseRatio ∧ s.env = List.replicate p.1 false ++ true :: rest := by
  intro p hp
  refine ⟨tinyFetch regs0 (List.replicate p.1 false ++ [true]) 0x2F, [], tinyFetch_atTltStart .., rfl, rfl, ?_, ?_, rfl⟩
  · revert p; decide
  · show p.1 < 4
    revert p; decide

theorem exec_outcome {s : State} {i : Instr} {o : TxOutcome}
    (h : (nextOf (exec i s)).map (fun t => t.outcome) = some o) : ∃ t, exec i s = .next t ∧ t.outcome = o := by
  cases hs : exec i s <;> simp_all [nextOf]

/-- A Talk that ends in each of the three collisions: a fall in the turnaround, at its very end, and in the start bit's
high hold. -/
theorem witness_FailedTalkDrainsNothing :
    ∀ p ∈ [(3, Err.tlt), (4, .wbPre), (8, .wbHigh)],
      ∃ s : State, s.matchClass 2#4 = some .kbd ∧
        ∃ t, exec (talkOf 2#4 3#2) s = .next t ∧ t.outcome = .error p.2 := by
  intro p hp
  refine ⟨tinyFetch regs0 (List.replicate p.1 false ++ [true]) 0x2F, rfl, exec_outcome ?_⟩
  revert p
  decide +kernel

theorem witness_TalkFrame : ∃ (s t : State) (a : BusAddr) (k : DevClass) (r : RegNum),
    s.matchClass a = some k ∧ s.ingestIn = [] ∧ exec (talkOf a r) s = .next t :=
  ⟨tinyFetch { regs0 with kbd := queue41 } [] 0x2C, _, 2, .kbd, 0, rfl, rfl, rfl⟩

/-- Cells of the small machine for a list of bits. -/
def cellsOf (bs : List Bool) : List (Nat × Nat) := bs.map fun b => if b then (3, 5) else (5, 3)

/-- A Listen's line: gap, start bit, the bytes' cells, and the stop bit with the line released. -/
def listenEnv (g ls hs : Nat) (bs : List Byte) (sl : Nat) : List Bool :=
  List.replicate g false ++ cellWave (ls, hs) ++ cellsWave (cellsOf (bs.flatMap bitsMsb)) ++ cellWave (sl, 6) ++ []

/-- Eight bytes, a gap of the last tick before `T_LISTEN_START` (6 fine ticks), start-bit phases at both bounds of
`T_LISTEN_RESYNC`, the longest stop-bit low. -/
theorem witness_ListenDeliversPayload : ∃ (s : State) (a : BusAddr) (k : DevClass) (b0 b1 : Byte) (more : List Byte)
    (g ls hs : Nat) (cells : List (Nat × Nat)) (sl : Nat) (rest : List Bool),
    s.atTltStart ∧ s.gaps = [] ∧ s.matchClass a = some k ∧ more.length ≤ 6 ∧
    g < s.cfg.timing.tListenStart * s.cfg.coarseRatio ∧
    1 ≤ ls ∧ ls < s.cfg.timing.tListenResync ∧ 1 ≤ hs ∧ hs < s.cfg.timing.tListenResync ∧
    cellsCarry s.cfg.timing cells ((b0 :: b1 :: more).flatMap bitsMsb) = true ∧
    s.cfg.timing.tBitLowMin ≤ sl ∧ sl < s.cfg.timing.tBitLowMax ∧
    s.env = List.replicate g false ++ cellWave (ls, hs) ++ cellsWave cells ++
      cellWave (sl, s.cfg.timing.tBitHighMax) ++ rest :=
  ⟨tinyFetch regs0 (listenEnv 5 1 5 [0x12, 0x34, 0xA5, 0x5A, 0x00, 0xFF, 0x80, 0x01] 5) 0x4A, 4, .arb, 0x12, 0x34,
    [0xA5, 0x5A, 0x00, 0xFF, 0x80, 0x01], 5, 1, 5,
    cellsOf ([0x12, 0x34, 0xA5, 0x5A, 0x00, 0xFF, 0x80, 0x01].flatMap bitsMsb), 5, [],
    tinyFetch_atTltStart .., rfl, rfl, by decide, by decide, by decide, by decide, by decide, by decide,
    by decide +kernel, by decide, by decide, rfl⟩

/-- No byte and one. -/
theorem witness_ListenShortFrameDiscarded : ∀ bs ∈ [[], [0x12#8]],
    ∃ (s : State) (a : BusAddr) (k : DevClass) (g ls hs : Nat) (cells : List (Nat × Nat)) (sl : Nat)
      (rest : List Bool),
    s.atTltStart ∧ s.gaps = [] ∧ s.matchClass a = some k ∧ bs.length ≤ 1 ∧
    g < s.cfg.timing.tListenStart * s.cfg.coarseRatio ∧
    1 ≤ ls ∧ ls < s.cfg.timing.tListenResync ∧ 1 ≤ hs ∧ hs < s.cfg.timing.tListenResync ∧
    cellsCarry s.cfg.timing cells (bs.flatMap bitsMsb) = true ∧
    s.cfg.timing.tBitLowMin ≤ sl ∧ sl < s.cfg.timing.tBitLowMax ∧
    s.env = List.replicate g false ++ cellWave (ls, hs) ++ cellsWave cells ++
      cellWave (sl, s.cfg.timing.tBitHighMax) ++ rest := by
  intro bs hbs
  refine ⟨tinyFetch regs0 (listenEnv 0 5 1 bs 2) 0x4A, 4, .arb, 0, 5, 1, cellsOf (bs.flatMap bitsMsb), 2, [],
    tinyFetch_atTltStart .., rfl, rfl, ?_, by decide +revert, by decide, by decide +revert, by decide,
    by decide +revert, ?_, by decide +revert, by decide +revert, rfl⟩
  · revert bs; decide
  · show cellsCarry tinyTiming _ _ = true
    revert bs; decide

/-- The clause of the missing start bit. -/
theorem witness_ListenWindowErrors_start : ∃ (s : State) (a : BusAddr) (k : DevClass),
    s.atTltStart ∧ s.matchClass a = some k ∧ s.quiet :=
  ⟨tinyFetch regs0 [] 0x4A, 4, .arb, tinyFetch_atTltStart .., rfl, quiet_nil _ rfl⟩

/-- The clause of the late start bit: a fall at exactly `T_LISTEN_START` (6 fine ticks), and one later, at the reference
spacing and at another. -/
theorem witness_ListenWindowErrors_late : ∀ p ∈ [(6, []), (9, []), (6, [1, 1]), (9, [0, 1, 1])],
    ∃ (s : State) (a : BusAddr) (k : DevClass) (rest : List Bool),
      s.atTltStart ∧ s.matchClass a = some k ∧ s.slack ≤ s.cfg.pollGap ∧ s.gaps = p.2 ∧
      s.cfg.timing.tListenStart * s.cfg.coarseRatio ≤ p.1 ∧ s.env = List.replicate p.1 false ++ true :: rest := by
  intro p hp
  refine ⟨{ tinyFetch regs0 (List.replicate p.1 false ++ [true]) 0x4A with gaps := p.2 }, 4, .arb, [],
    ⟨tinyCfg_wf, rfl, rfl⟩, rfl, Nat.le_refl 1, rfl, ?_, rfl⟩
  show 6 ≤ p.1
  revert p; decide

/-- The start bit's low, and its high, of exactly `T_LISTEN_RESYNC` (6 ticks), at the latest start. -/
theorem witness_ListenWindowErrors_resync : ∀ p ∈ [(6, 1), (1, 6)],
    ∃ (s : State) (a : BusAddr) (k : DevClass) (g : Nat) (rest : List Bool),
      s.atTltStart ∧ s.matchClass a = some k ∧ s.gaps = [] ∧ g < s.cfg.timing.tListenStart * s.cfg.coarseRatio ∧
      s.env = List.replicate g false ++ cellWave p ++ rest ∧ 1 ≤ p.1 ∧ 1 ≤ p.2 ∧
      (s.cfg.timing.tListenResync ≤ p.1 ∨ s.cfg.timing.tListenResync ≤ p.2) := by
  intro p hp
  refine ⟨tinyFetch regs0 (List.replicate 5 false ++ cellWave p ++ []) 0x4A, 4, .arb, 5, [],
    tinyFetch_atTltStart .., rfl, rfl, by decide +revert, rfl, ?_⟩
  show 1 ≤ p.1 ∧ 1 ≤ p.2 ∧ (6 ≤ p.1 ∨ 6 ≤ p.2)
  revert p; decide

theorem witness_ListenFrame : ∃ (s t : State) (a : BusAddr) (k : DevClass) (r : RegNum),
    s.drive = false ∧ s.matchClass a = some k ∧ s.ingestIn = [] ∧ exec (listenOf a r) s = .next t :=
  ⟨tinyFetch regs0 [] 0x4A, _, 4, .arb, 2, rfl, rfl, rfl, rfl⟩

theorem witness_IdentityChangesOnlyByListenR3OrReset : ∃ s t : State,
    s.Inv ∧ step s = .next t ∧ t.outcome = .listenOk ∧ (s.ids.get .kbd).addr ≠ (t.ids.get .kbd).addr :=
  ⟨withFlag false (tinyFetch regs0 (hostFrame [0x07, 0x03]) 0x2B), _, tinyFetch_inv _ _ _ rfl,
    step_after (by decide +kernel), by decide +kernel, by decide +kernel⟩

/-- Both clauses: a collision in a Talk of register 3 sets the flag, a Listen of register 3 with FE clears it. -/
theorem witness_CollisionFlagWriters :
    (∃ s t : State, s.Inv ∧ step s = .next t ∧ (s.ids.get .kbd).collision = false ∧
      (t.ids.get .kbd).collision = true) ∧
    (∃ s t : State, s.Inv ∧ step s = .next t ∧ (s.ids.get .kbd).collision = true ∧
      (t.ids.get .kbd).collision = false) :=
  ⟨⟨withFlag false (tinyFetch regs0 [false, true] 0x2F), _, tinyFetch_inv _ _ _ rfl, step_after (by decide +kernel),
      by decide +kernel, by decide +kernel⟩,
   ⟨withFlag true (tinyFetch regs0 (hostFrame [0x05, 0xFE]) 0x2B), _, tinyFetch_inv _ _ _ rfl,
      step_after (by decide +kernel), by decide +kernel, by decide +kernel⟩⟩

/-- Every engine state of the statement, and both of its ends for CLASSIFY: a low of 4 ticks is an attention, one of 8 a
reset. -/
theorem witness_EarlyPhasesLeaveDevicesToIngest :
    (∀ e ∈ [EngineState.idle, .classify, .sync, .command, .srq], ∃ s t : State,
      noPowerOnDue s ∧ step s = .next t ∧ s.state = e) ∧
    (∀ p ∈ [(4, EngineState.sync), (8, .idle)], ∃ s t : State,
      noPowerOnDue s ∧ step s = .next t ∧ s.state = .classify ∧ t.state = p.2) := by
  constructor
  · intro e he
    refine ⟨tinyAt e [false, true], _, .inl rfl, step_after ?_, rfl⟩
    revert e; decide +kernel
  · intro p hp
    refine ⟨tinyAt .classify (List.replicate p.1 true), _, .inl rfl, step_after ?_, rfl, ?_⟩ <;>
      (revert p; decide +kernel)

/-- Sizes on every side of the two pushes' conditions: 0, 13, 14, 15 and 16. -/
theorem witness_KeyboardPushes : ∀ n ∈ [0, 13, 14, 15, 16], ∃ k : Keyboard, k.size = n ∧ k.size ≤ 16 := by
  intro n hn
  refine ⟨queued regs0.kbd.kq n, rfl, ?_⟩
  show n ≤ 16
  revert n; decide

theorem witness_KeyboardPeekAndDrain : ∀ n ∈ [0, 1, 2, 16], ∃ k : Keyboard, k.size = n ∧ k.size ≤ 16 := by
  intro n hn
  refine ⟨queued regs0.kbd.kq n, rfl, ?_⟩
  show n ≤ 16
  revert n; decide

theorem witness_IngestPushesRunBufferOperations : ∃ c : Config, c.present .kbd = true := ⟨tinyCfg, rfl⟩

theorem witness_ArbitraryRegister2WrittenAlike : ∃ s : State, s.cfg.present .arb = true := ⟨tinyAt .listen [], rfl⟩

/-- The small configuration with class `k` alone. -/
def tinyOnly (k : DevClass) : Config :=
  { tinyCfg with
    kbd := { tinyCfg.kbd with present := k == .kbd }
    mouse := { tinyCfg.mouse with present := k == .mouse }
    arb := { tinyCfg.arb with present := k == .arb } }

/-- An absent class of each kind; the first button value past the mask; lengths 0 and 9; a load while one is pending. -/
theorem witness_IngestRefusals :
    (tinyOnly .mouse).present .kbd = false ∧ (tinyOnly .arb).present .mouse = false ∧
    (tinyOnly .kbd).present .arb = false ∧ 4 ≤ 4 ∧
    ([] : List Byte).length < 1 ∧ 8 < (List.replicate 9 0#8).length ∧ (loadedArb 1).arb.r0ready = true := by
  decide

/-- The greatest button value, and loads of one byte and of eight. -/
theorem witness_IngestEffects :
    tinyCfg.present .kbd = true ∧ tinyCfg.present .mouse = true ∧ tinyCfg.present .arb = true ∧ 3 < 4 ∧ 1 ≤ [0xDE#8].length ∧
    (List.replicate 8 0xDE#8).length ≤ 8 ∧ regs0.arb.r0ready = false := by
  decide

theorem witness_CounterFollowsTime : ∃ s : State, s.timer.running = false := ⟨State.reset, rfl⟩

/-- The small machine with polls up to three ticks apart. -/
def tinyGap (env : List Bool) : State :=
  { tinyAt .sync env with cfg := { tinyCfg with pollGap := 3 }, slack := 3, gaps := [2, 3, 1, 3] }

theorem tinyGap_wf : (tinyGap []).cfg.wf = true := by decide

/-- A fine and a coarse wait of 7 ticks with `POLL_GAP = 3`, the limit just above what the last poll can read. -/
theorem witness_WaitMeasuresInterval : ∀ p ∈ [(Res.fine, 10), (Res.coarse, 5)],
    ∃ (s : State) (m : Nat) (rest : List Bool),
      s.cfg.wf = true ∧ s.drive = false ∧ s.slack ≤ s.cfg.pollGap ∧ 1 ≤ 7 ∧ s.cfg.pollGap ≤ m ∧ p.2 ≤ 255 ∧
      (7 + s.cfg.pollGap - 1) / s.cfg.rTicks p.1 < p.2 ∧
      s.env = List.replicate 7 (!true) ++ List.replicate m true ++ rest := by
  intro p hp
  refine ⟨tinyGap (List.replicate 7 false ++ List.replicate 3 true), 3, [], by decide, rfl, by decide, by decide,
    by decide, ?_, ?_, rfl⟩
  · revert p; decide
  · revert p; decide

/-- The second clause: the line at the level from the timer's start on, and at a release 5 ticks after it, in each
resolution; and the greatest `d` without a wrap in fine ticks. -/
theorem witness_WaitMeasuresInterval_at_level : ∀ p ∈ [(Res.fine, 0), (Res.coarse, 0), (Res.coarse, 5), (Res.fine, 253)],
    ∃ (s : State) (m : Nat) (rest : List Bool),
      s.cfg.wf = true ∧ s.drive = false ∧ s.slack ≤ s.cfg.pollGap ∧ s.timer = ⟨p.1, 7, true⟩ ∧ s.now = 7 + p.2 ∧
      s.cfg.pollGap < m ∧ (p.2 + s.cfg.pollGap - 1) / s.cfg.rTicks p.1 ≤ 255 ∧
      s.env = List.replicate m false ++ rest := by
  intro p hp
  refine ⟨{ tinyGap (List.replicate 4 false) with timer := ⟨p.1, 7, true⟩, now := 7 + p.2 }, 4, [], tinyGap_wf, rfl,
    Nat.le_refl 3, rfl, rfl, Nat.lt_succ_self 3, ?_, rfl⟩
  revert p; decide

/-- Limits 1 and the greatest W7 allows with `POLL_GAP = 3`. -/
theorem witness_WaitTimesOut : ∀ p ∈ [(Res.fine, 1), (Res.fine, 253), (Res.coarse, 1), (Res.coarse, 254)],
    ∃ s : State, s.cfg.wf = true ∧ s.drive = false ∧ s.slack ≤ s.cfg.pollGap ∧ s.quiet ∧ 1 ≤ p.2 ∧
      p.2 - 1 + (s.cfg.pollGap + s.cfg.rTicks p.1 - 1) / s.cfg.rTicks p.1 ≤ 255 := by
  intro p hp
  refine ⟨tinyGap [], by decide, rfl, by decide, quiet_nil _ rfl, ?_, ?_⟩
  · revert p; decide
  · revert p; decide

/-- The second clause, on a line that moves. -/
theorem witness_WaitTimesOut_any : ∀ p ∈ [(Res.fine, 1), (Res.fine, 253), (Res.coarse, 1), (Res.coarse, 254)],
    ∃ s : State, s.cfg.wf = true ∧ s.slack ≤ s.cfg.pollGap ∧ s.line = true ∧ 1 ≤ p.2 ∧
      p.2 - 1 + (s.cfg.pollGap + s.cfg.rTicks p.1 - 1) / s.cfg.rTicks p.1 ≤ 255 := by
  intro p hp
  refine ⟨tinyGap [true], by decide, by decide, rfl, ?_, ?_⟩
  · revert p; decide
  · revert p; decide

/-- The third clause: the least hold and the greatest W7 allows, in each resolution, entered at the timer's start after
a poll, and at the last tick there is room (`POLL_GAP = 3`). -/
theorem witness_WaitTimesOut_hold :
    ∀ p ∈ [(Res.fine, 1, 0, true), (Res.fine, 253, 0, true), (Res.coarse, 254, 0, true), (Res.fine, 1, 3, false),
      (Res.coarse, 2, 5, true)],
    ∃ s : State, s.cfg.wf = true ∧ s.slack ≤ s.cfg.pollGap ∧ s.timer = ⟨p.1, 0, true⟩ ∧ 0 ≤ s.now ∧ s.now = p.2.2.1 ∧
      1 ≤ p.2.1 ∧ p.2.1 - 1 + (s.cfg.pollGap + s.cfg.rTicks p.1 - 1) / s.cfg.rTicks p.1 ≤ 255 ∧
      s.now ≤ 0 + p.2.1 * s.cfg.rTicks p.1 + (s.cfg.pollGap - 1) := by
  intro p hp
  refine ⟨{ tinyGap [] with timer := ⟨p.1, 0, true⟩, now := p.2.2.1, polledNow := p.2.2.2 }, tinyGap_wf, Nat.le_refl 3, rfl,
    Nat.zero_le _, rfl, ?_, ?_, ?_⟩ <;> revert p <;> decide

theorem witness_WriteBitOnQuietLine : ∃ s : State, s.cfg.wf = true ∧ s.drive = false ∧ s.gaps = [] ∧ s.quiet :=
  ⟨tinyAt .talk [], tinyCfg_wf, rfl, rfl, quiet_nil _ rfl⟩

theorem witness_WriteBitCollisions_before : ∃ s : State,
    s.cfg.wf = true ∧ s.drive = false ∧ s.gaps = [] ∧ s.envNow = true :=
  ⟨tinyAt .talk [true], tinyCfg_wf, rfl, rfl, rfl⟩

/-- A 1 sent, another device low through CORE's own low, met at the release (`j = 0`) and in the last tick of the high
hold (`j = 4`); a 0 sent, met at the last tick of its high hold (`j = 2`). -/
theorem witness_WriteBitCollisions_hold : ∀ p ∈ [(true, 2, 0), (true, 2, 4), (false, 4, 2)],
    ∃ (s : State) (during rest : List Bool), s.cfg.wf = true ∧ s.drive = false ∧ s.gaps = [] ∧
      s.env = false :: during ++ List.replicate p.2.2 false ++ true :: rest ∧
      during.length + 1 = (if p.1 then s.cfg.timing.tBitShort else s.cfg.timing.tBitLong) ∧
      p.2.2 < (if p.1 then s.cfg.timing.tBitLong else s.cfg.timing.tBitShort) := by
  intro p hp
  refine ⟨tinyAt .talk (false :: List.replicate p.2.1 true ++ List.replicate p.2.2 false ++ true :: []),
    List.replicate p.2.1 true, [], tinyCfg_wf, rfl, rfl, rfl, ?_, ?_⟩
  · show (List.replicate p.2.1 true).length + 1 = (if p.1 then 3 else 5)
    revert p; decide
  · show p.2.2 < (if p.1 then 5 else 3)
    revert p; decide

end Sys2Proof.Tests
end

/-!
SUPPORT. What one step can do, said once: each phase of the engine is engine events (`Polled`) up to its end, followed by
the end or hand-over that the phase chooses. `Stepped s t` collects the phases of `step`, `Executed i s t` the commands of
DISPATCH; proofs about every step split on them and unfold no phase.
-/

namespace Sys2Proof.Machine

/-! ## Polls and the transmit buffer -/

/-- `buf` and `len` written as one, what a reception does to the transaction registers (R92). -/
def State.withData (buf : Vector Byte 8) (len : Nat) (s : State) : State :=
  { s with tx := { s.tx with buf := buf, len := len } }

/-- Engine events neither read nor write the transmit buffer. -/
theorem Polled.withData {s t : State} (h : Polled s t) (buf : Vector Byte 8) (len : Nat) :
    Polled (s.withData buf len) (t.withData buf len) :=
  ⟨h.cfg, h.state, by simp only [State.withData, h.tx], h.outcome, h.ids, h.begun, h.resetEntry, h.now_le, h.env,
    h.ops, h.paced⟩

theorem readByte_drive (s : State) : (readByte s).1.drive = s.drive := (readBits_drive 8 _ s).1

/-- A reception fills the buffer by engine events alone, and counts at most `m` bytes more (R92). -/
theorem receiveBytes_polled (m n : Nat) (s : State) :
    (∃ buf, Polled (s.withData buf s.tx.len) (receiveBytes m n s).1) ∧ (receiveBytes m n s).2 ≤ n + m := by
  induction m generalizing n s with
  | zero => exact ⟨⟨s.tx.buf, .refl s⟩, Nat.le_refl n⟩
  | succ m ih =>
    have hp := polled_readByte s
    simp only [receiveBytes]
    split
    · generalize readByte s = r at hp
      obtain ⟨⟨buf, hb⟩, hn⟩ := ih (n + 1) (r.1.setBuf n r.2.1)
      refine ⟨⟨buf, ?_⟩, by omega⟩
      have hlen : r.1.tx.len = s.tx.len := by rw [hp.tx]
      exact (hp.withData buf s.tx.len).trans (hlen ▸ hb)
    · exact ⟨⟨s.tx.buf, hp⟩, Nat.le_add_right n _⟩

/-! ## The phases before DISPATCH -/

/-- IDLE: a fresh transaction and a poll, after which the engine stays or goes on to CLASSIFY (R78). -/
theorem idlePoll_cases (s : State) :
    ∃ u, Polled s.beginTransaction u ∧ u.drive = s.drive ∧ (idlePoll s = u ∨ idlePoll s = u.goto .classify) := by
  have hp := (polled_toPoll 0 s.beginTransaction).trans (polled_waitPoll true _)
  have hd := (watched_waitPoll true (s.beginTransaction.toPoll 0)).drive
  simp only [idlePoll]
  split
  · exact ⟨_, hp, hd, .inr rfl⟩
  · exact ⟨_, hp.trans (polled_toPoll 1 _), hd, .inl rfl⟩

/-- CLASSIFY: a wait, then a bus reset, a spurious end or SYNC (R79). -/
theorem classify_cases (s : State) :
    ∃ u, Polled s u ∧ u.drive = s.drive ∧
      (classify s = u.deviceReset.endTx .reset ∨ classify s = u.endTx .spurious ∨ classify s = u.goto .sync) := by
  refine ⟨(waitFree s.cfg.timing.tReset .coarse s).1, polled_waitFree _ _ s, (waitFree_drive _ _ s).1, ?_⟩
  simp only [classify]
  split
  · exact .inl rfl
  · split
    · exact .inr (.inl rfl)
    · exact .inr (.inr rfl)

/-- SYNC: a wait, then the abort or COMMAND (R80). -/
theorem syncWindow_cases (s : State) :
    ∃ u, Polled s u ∧ u.drive = s.drive ∧ (syncWindow s = u.raiseErr .syncWindow ∨ syncWindow s = u.goto .command) := by
  refine ⟨(waitAssert s.cfg.timing.tSyncMax .fine s).1, polled_waitAssert _ _ s, (waitAssert_drive _ _ s).1, ?_⟩
  simp only [syncWindow]
  split
  · exact .inl rfl
  · exact .inr rfl

/-- COMMAND: a byte is read into `cmd`, or the transaction aborts (R81). -/
theorem readCommand_cases (s : State) :
    ∃ u, Polled s u ∧ u.drive = s.drive ∧
      ((∃ e, readCommand s = u.raiseErr e) ∨ ∃ v, readCommand s = (u.setCmd v).goto .srq) := by
  refine ⟨(readByte s).1, polled_readByte s, readByte_drive s, ?_⟩
  simp only [readCommand]
  split
  · exact .inr ⟨_, rfl⟩
  · exact .inl ⟨_, rfl⟩

/-- The end of the Service-Request Window: the abort or DISPATCH (R84). -/
theorem srqSettle_cases (s : State) :
    ∃ u, Polled s u ∧ u.drive = s.drive ∧ ((∃ e, srqSettle s = u.raiseErr e) ∨ srqSettle s = u.goto .dispatch) := by
  have hp := polled_pollUntil false s.cfg.timing.tSrqCeil true s
  have hd := (watched_pollUntil false s.cfg.timing.tSrqCeil true s).drive
  simp only [srqSettle]
  split
  · exact ⟨_, hp, hd, .inl ⟨_, rfl⟩⟩
  · exact ⟨_, hp.trans (polled_timerStart .coarse _), hd, .inr rfl⟩

theorem polled_srqAssert (s : State) : Polled s (srqAssert s) :=
  ((((polled_dueBy _ s).trans (polled_driveLine true _)).trans (polled_holdUntil _ true _)).trans
    (polled_dueBy _ _)).trans (polled_driveLine false _)

/-- CORE's own assertion ends released (R84). -/
theorem srqAssert_drive (s : State) : (srqAssert s).drive = false := rfl

/-- SRQ: from the phase start on engine events, then the abort or DISPATCH with the line as released as it was (R83,
R84). -/
theorem srqPhase_cases (s : State) :
    ∃ u, Polled (srqStart s) u ∧
      ((∃ e, srqPhase s = u.raiseErr e) ∨
        (s.drive = false → u.drive = false) ∧ srqPhase s = u.goto .dispatch) := by
  have hd0 : (srqStart s).drive = s.drive := rfl
  simp only [srqPhase]
  split
  · obtain ⟨u, hp, hd, he | hu⟩ := srqSettle_cases (srqStart s)
    · exact ⟨u, hp, .inl he⟩
    · exact ⟨u, hp, .inr ⟨fun h => by rw [hd, hd0, h], hu⟩⟩
  · have hl := polled_pollLine (srqStart s)
    split
    · obtain ⟨u, hp, hd, he | hu⟩ := srqSettle_cases (srqAssert (srqStart s).pollLine.1)
      · exact ⟨u, (hl.trans (polled_srqAssert _)).trans hp, .inl he⟩
      · exact ⟨u, (hl.trans (polled_srqAssert _)).trans hp, .inr ⟨fun _ => hd.trans (srqAssert_drive _), hu⟩⟩
    · exact ⟨_, hl, .inl ⟨_, rfl⟩⟩

/-! ## The phases after DISPATCH -/

/-- The data part of Listen: a reception of at most 8 bytes that aborts or is delivered (R92). -/
theorem listenData_cases (k : DevClass) (s : State) :
    ∃ buf len u, Polled (s.withData buf len) u ∧ len ≤ 8 ∧
      ((∃ e, listenData k s = u.raiseErr e) ∨ listenData k s = (u.deliver k).endTx .listenOk) := by
  obtain ⟨⟨buf, hb⟩, hn⟩ := receiveBytes_polled txbufCap 0 s
  simp only [listenData]
  generalize receiveBytes txbufCap 0 s = r at hb hn
  have hbuf : r.1.tx.buf = buf := by rw [hb.tx]; rfl
  refine ⟨buf, r.2, r.1.withData r.1.tx.buf r.2, hbuf ▸ hb.withData r.1.tx.buf r.2, by simpa using hn, ?_⟩
  split
  · exact .inl ⟨_, rfl⟩
  · exact .inr rfl

/-- The Listen phase aborts, or delivers what it has received (R92). -/
theorem listenPhase_cases (k : DevClass) (s : State) :
    ∃ buf len u, Polled (s.withData buf len) u ∧ (s.tx.len ≤ 8 → len ≤ 8) ∧
      ((∃ e, listenPhase k s = u.raiseErr e) ∨ listenPhase k s = (u.deliver k).endTx .listenOk) := by
  have hw := polled_pollUntil true s.cfg.timing.tListenStart true s
  simp only [listenPhase]
  split
  · exact ⟨s.tx.buf, s.tx.len, _, hw, id, .inl ⟨_, rfl⟩⟩
  · generalize (pollUntil true s.cfg.timing.tListenStart true s).1 = w at hw
    have hf := hw.trans (polled_resyncFree w.cfg.timing.tListenResync w)
    simp only [listenResync]
    split
    · exact ⟨s.tx.buf, s.tx.len, _, hf, id, .inl ⟨_, rfl⟩⟩
    · have hg := hf.trans (polled_resyncAssert w.cfg.timing.tListenResync _)
      split
      · exact ⟨s.tx.buf, s.tx.len, _, hg, id, .inl ⟨_, rfl⟩⟩
      · obtain ⟨buf, len, u, hd, hlen, hu⟩ := listenData_cases k (resyncAssert w.cfg.timing.tListenResync _).1
        exact ⟨buf, len, u, (hg.withData buf len).trans hd, fun _ => hlen, hu⟩

/-- A failed transmission aborts as the collision it is (R87, D31). -/
theorem talkAbort_of_collision {e : Err} (he : e.cls = .collision) (k : DevClass) (s : State) :
    talkAbort k e s = (s.recordCollision k).raiseErr e := by
  simp [talkAbort, he]

/-- A frame that ends with an error ends with a collision (R73, D31). -/
theorem sendFrame_collision {bs : List Byte} {s : State} (h : (sendFrame bs s).2 ≠ .none) :
    (sendFrame bs s).2.cls = .collision := by
  obtain h0 | h1 | h2 := sendFrame_err bs s
  · exact absurd h0 h
  · rw [h1]; rfl
  · rw [h2]; rfl

/-- The Talk phase ends without data, in a collision, or after the whole frame with its drain (R87). -/
theorem talkPhase_cases (k : DevClass) (s : State) :
    ∃ u, Polled (s.produce k s.tx.reg) u ∧
      (talkPhase k s = u.endTx .talkNoData ∨
        (∃ e, e.cls = .collision ∧ talkPhase k s = (u.recordCollision k).raiseErr e) ∨
        talkPhase k s = (u.drainReg k u.tx.reg).endTx .talkOk) := by
  simp only [talkPhase]
  generalize s.produce k s.tx.reg = p
  split
  · exact ⟨p, .refl p, .inl rfl⟩
  · have hw := polled_pollUntil true p.cfg.timing.tTlt true p
    generalize pollUntil true p.cfg.timing.tTlt true p = w at hw
    split
    · exact ⟨w.1, hw, .inr (.inl ⟨.tlt, rfl, rfl⟩)⟩
    · refine ⟨(sendFrame w.1.payload w.1).1, hw.trans (polled_sendFrame _ _), .inr ?_⟩
      simp only [talkSend]
      split
      · exact .inr rfl
      · next h => exact .inl ⟨_, sendFrame_collision h, talkAbort_of_collision (sendFrame_collision h) k _⟩

/-! ## DISPATCH and the step -/

/-- What DISPATCH does with the command `i` (R85): without a class at its address it ends the transaction, with one it
runs the command's part for that class. Only `LISTEN reg3` runs the Listen phase with register 3. -/
inductive Executed (i : Instr) (s : State) : State → Prop
  | notAddressed (hk : s.matchClass i.addr = none) :
      Executed i s ((s.setTarget ClassMask.zero).endTx .notAddressed)
  | talk (k : DevClass) (r : RegNum) (hk : s.matchClass i.addr = some k) :
      Executed i s (talkPhase k (((s.setTarget (ClassMask.onehot k)).setReg r).goto .talk))
  | listen (k : DevClass) (r : RegNum) (hk : s.matchClass i.addr = some k)
      (hr : r = 0b11#2 → ∃ a, i = .listenR3 a) :
      Executed i s (listenPhase k (((s.setTarget (ClassMask.onehot k)).setReg r).goto .listen))
  | flush (k : DevClass) (hk : s.matchClass i.addr = some k) :
      Executed i s (((s.setTarget (ClassMask.onehot k)).flushClass k).endTx .flushed)
  | reserved (k : DevClass) (r : RegNum) (hk : s.matchClass i.addr = some k) :
      Executed i s (((s.setTarget (ClassMask.onehot k)).setReg r).endTx .reserved)

/-- A command is executed if its own part is, for the class it addresses. -/
theorem executed_command {i : Instr} {s : State} (f : DevClass → State → State)
    (h : ∀ k, s.matchClass i.addr = some k → Executed i s (f k (s.setTarget (ClassMask.onehot k)))) :
    Executed i s (s.command i.addr f) := by
  cases hk : s.matchClass i.addr with
  | none => rw [State.command_none f hk]; exact .notAddressed hk
  | some k => rw [State.command_some f hk]; exact h k hk

theorem executed_talk (i : Instr) (s : State) (r : RegNum) : Executed i s (s.talk i.addr r) :=
  executed_command _ fun k hk => .talk k r hk

theorem executed_listen (i : Instr) (s : State) (r : RegNum) (hr : r = 0b11#2 → ∃ a, i = .listenR3 a) :
    Executed i s (s.listen i.addr r) :=
  executed_command _ fun k hk => .listen k r hk hr

theorem executed_reserved (i : Instr) (s : State) (r : RegNum) : Executed i s (s.reserved i.addr r) :=
  executed_command _ fun k hk => .reserved k r hk

/-- Every command goes on: DISPATCH neither faults nor refuses (R57, R85). -/
theorem exec_executed (i : Instr) (s : State) : ∃ t, exec i s = .next t ∧ Executed i s t := by
  cases i with
  | talkR0 a => exact ⟨_, rfl, executed_talk (.talkR0 a) s _⟩
  | talkR1 a => exact ⟨_, rfl, executed_talk (.talkR1 a) s _⟩
  | talkR2 a => exact ⟨_, rfl, executed_talk (.talkR2 a) s _⟩
  | talkR3 a => exact ⟨_, rfl, executed_talk (.talkR3 a) s _⟩
  | listenR0 a => exact ⟨_, rfl, executed_listen (.listenR0 a) s _ (absurd · (by decide))⟩
  | listenR1 a => exact ⟨_, rfl, executed_listen (.listenR1 a) s _ (absurd · (by decide))⟩
  | listenR2 a => exact ⟨_, rfl, executed_listen (.listenR2 a) s _ (absurd · (by decide))⟩
  | listenR3 a => exact ⟨_, rfl, executed_listen (.listenR3 a) s _ fun _ => ⟨a, rfl⟩⟩
  | flush a => exact ⟨_, rfl, executed_command (i := .flush a) _ fun k hk => .flush k hk⟩
  | rsv0 a => exact ⟨_, rfl, executed_reserved (.rsv0 a) s _⟩
  | rsv2 a => exact ⟨_, rfl, executed_reserved (.rsv2 a) s _⟩
  | rsv3 a => exact ⟨_, rfl, executed_reserved (.rsv3 a) s _⟩
  | rsv4 a r => exact ⟨_, rfl, executed_reserved (.rsv4 a r) s _⟩

/-- What one step does, by the state it is taken in (R15, R76, R77, R158). -/
inductive Stepped (s : State) : State → Prop
  | powerOn (hr : s.resetEntry = true) (hb : s.begun = false) : Stepped s s.powerOn
  | idle (h : s.state = .idle) : Stepped s (idlePoll s)
  | classify (h : s.state = .classify) : Stepped s (classify s)
  | sync (h : s.state = .sync) : Stepped s (syncWindow s)
  | command (h : s.state = .command) : Stepped s (readCommand s)
  | srq (h : s.state = .srq) : Stepped s (srqPhase s)
  | dispatch (h : s.state = .dispatch) {t : State} (hx : Executed s.fetched s t) : Stepped s t
  | talk (h : s.state = .talk) (k : DevClass) (hk : s.tx.target.first = some k) : Stepped s (talkPhase k s)
  | listen (h : s.state = .listen) (k : DevClass) (hk : s.tx.target.first = some k) : Stepped s (listenPhase k s)

/-- A step of the machine is one of the moves of `Stepped`. -/
theorem stepped_of_step {s t : State} (h : step s = .next t) : Stepped s t := by
  unfold step at h
  split at h
  · cases h
  · split at h
    · next hp =>
      obtain ⟨hr, hb⟩ := hp
      cases h
      exact .powerOn hr hb
    · split at h
      · next hs => cases h; exact .idle hs
      · next hs => cases h; exact .classify hs
      · next hs => cases h; exact .sync hs
      · next hs => cases h; exact .command hs
      · next hs => cases h; exact .srq hs
      · next hs =>
        obtain ⟨u, hu, hx⟩ := exec_executed s.fetched s
        rw [hu] at h
        cases h
        exact .dispatch hs hx
      · next hs =>
        cases hk : s.tx.target.first with
        | none => simp [resumeTalk, hk] at h
        | some k => simp only [resumeTalk, hk] at h; cases h; exact .talk hs k hk
      · next hs =>
        cases hk : s.tx.target.first with
        | none => simp [resumeListen, hk] at h
        | some k => simp only [resumeListen, hk] at h; cases h; exact .listen hs k hk

end Sys2Proof.Machine

/-!
SUPPORT. `State.Safe`: the part of the invariant that holds at every moment, inside a phase too. Every operation keeps it,
and where a step ends it gives `State.Inv` back.
-/

namespace Sys2Proof

/-! ## Well-formed configurations -/

theorem DevClass.mem_all (k : DevClass) : k ∈ DevClass.all := by cases k <;> decide

theorem Config.w1_iff (c : Config) : c.w1 = true ↔ ∀ f ∈ c.timing.fields, 1 ≤ f.2 ∧ f.2 ≤ 255 := by
  simp only [Config.w1, List.all_eq_true, Bool.and_eq_true, decide_eq_true_eq]

theorem Config.w7_iff (c : Config) : c.w7 = true ↔
    ∀ f ∈ c.timing.fields, f.2 - 1 + (c.pollGap + c.rTicks f.1 - 1) / c.rTicks f.1 ≤ 255 := by
  simp only [Config.w7, List.all_eq_true, decide_eq_true_eq]

theorem Config.w8_iff (c : Config) :
    c.w8 = true ↔ ∀ k, c.present k = true → (c.classCfg k).defaultAddr ≠ 0#4 := by
  simp only [Config.w8, List.all_eq_true, DevClass.mem_all, true_implies, Bool.or_eq_true, Bool.not_eq_true',
    decide_eq_true_eq, ← Bool.not_eq_true, ← imp_iff_not_or]

/-- A well-formed configuration gives every present class a legal default address (W8). -/
theorem Config.defaultAddr_ne_zero {c : Config} (h : c.wf = true) {k : DevClass} (hk : c.present k = true) :
    (c.classCfg k).defaultAddr ≠ 0#4 := by
  simp only [Config.wf, Bool.and_eq_true] at h
  obtain ⟨⟨-, h8⟩, -⟩ := h
  exact c.w8_iff.mp h8 k hk

end Sys2Proof

namespace Sys2Proof.Machine

/-! ## The parts of the invariant -/

/-- An address a class may have and a handler R21 allows it. -/
structure Identity.Legal (c : Config) (k : DevClass) (d : Identity) : Prop where
  addr : d.addr ≠ 0#4
  handler : d.handler = (c.classCfg k).defaultHandler ∨ d.handler ∈ c.acceptHandlers k

/-- The identities of the present classes are legal (R21, R27 item 1). -/
def Identities.Legal (c : Config) (d : Identities) : Prop :=
  ∀ k, c.present k = true → (d.get k).Legal c k

/-- A target selects no class, or one present class alone (R27 item 4). -/
def ClassMask.Legal (c : Config) (m : ClassMask) : Prop :=
  ∀ k, m.get k = true → c.present k = true ∧ m = ClassMask.onehot k

/-- The bounds of R27 items 2 to 4 on the transaction registers. -/
structure Txn.Bounded (c : Config) (tx : Txn) : Prop where
  len : tx.len ≤ 8
  drainKbd : tx.drainKbd ≤ 2
  target : tx.target.Legal c

/-- The part of the invariant that does not speak of the line driver or of the engine's state. -/
structure State.Safe (s : State) : Prop where
  config : s.cfg.wf = true
  ranges : MouseRanges s.cfg
  ids : s.ids.Legal s.cfg
  regs : s.regs.Bounded s.cfg
  tx : s.tx.Bounded s.cfg
  paced : s.slack ≤ s.cfg.pollGap

theorem State.Inv.safe {s : State} (h : s.Inv) : s.Safe where
  config := h.config
  ranges := h.ranges
  ids := fun k hk => ⟨h.addr k hk, h.handler k hk⟩
  regs := ⟨h.queue, h.r0len, h.ready, h.mouse⟩
  tx := ⟨h.len, h.drainKbd, h.target⟩
  paced := h.paced

/-- What a step has to establish beside `Safe` (R82, R84, R144). -/
theorem State.Safe.inv {s : State} (h : s.Safe) (released : s.drive = false) (notTalk : s.state ≠ .talk)
    (notListen : s.state ≠ .listen)
    (latched : s.state = .dispatch → s.tx.target = s.matchMask (fieldA s.tx.cmd)) : s.Inv where
  config := h.config
  ranges := h.ranges
  addr := fun k hk => (h.ids k hk).addr
  handler := fun k hk => (h.ids k hk).handler
  queue := h.regs.queue
  len := h.tx.len
  r0len := h.regs.r0len
  drainKbd := h.tx.drainKbd
  ready := h.regs.ready
  target := h.tx.target
  mouse := h.regs.mouse
  released := released
  notTalk := notTalk
  notListen := notListen
  paced := h.paced
  latched := latched

/-! ## Identities and targets -/

theorem Identity.default_legal {c : Config} (h : c.wf = true) {k : DevClass} (hk : c.present k = true) :
    (Identity.default (c.classCfg k)).Legal c k :=
  ⟨Config.defaultAddr_ne_zero h hk, .inl rfl⟩

/-- The identity policy takes no address 0 and no handler outside the accepted ones (R118). -/
theorem Identity.update_legal {c : Config} {k : DevClass} {d : Identity} (h : d.Legal c k) (b0 b1 : Byte) :
    (d.update c (c.acceptHandlers k) b0 b1).Legal c k := by
  unfold Identity.update
  split
  · exact h
  · split
    · exact ⟨h.addr, h.handler⟩
    · split
      · exact h
      · next ha =>
        split
        · next hb => exact ⟨ha, .inr hb⟩
        · exact ⟨ha, h.handler⟩

theorem Identities.Legal.set {c : Config} {d : Identities} (h : d.Legal c) {k : DevClass} {x : Identity}
    (hx : c.present k = true → x.Legal c k) : (d.set k x).Legal c := by
  intro j hj
  by_cases hjk : j = k
  · subst hjk
    rw [Identities.get_set]
    exact hx hj
  · rw [Identities.get_set_of_ne hjk]
    exact h j hj

theorem ClassMask.zero_legal (c : Config) : ClassMask.zero.Legal c := by
  intro k hk
  rw [ClassMask.zero_get] at hk
  cases hk

theorem ClassMask.onehot_legal {c : Config} {k : DevClass} (h : c.present k = true) : (ClassMask.onehot k).Legal c := by
  intro j hj
  rw [ClassMask.onehot_get_iff] at hj
  subst hj
  exact ⟨h, rfl⟩

/-- The address match selects no class or one present class (R82). -/
theorem State.matchMask_legal (s : State) (a : BusAddr) : (s.matchMask a).Legal s.cfg := by
  cases hk : s.matchClass a with
  | none => simpa [State.matchMask, hk] using ClassMask.zero_legal s.cfg
  | some k => simpa [State.matchMask, hk] using ClassMask.onehot_legal (State.matchClass_sound hk).1

/-! ## Operations that keep `Safe` -/

namespace State.Safe

variable {s t : State}

theorem of_polled (h : s.Safe) (hp : Polled s t) : t.Safe := by
  obtain ⟨n, -, hregs⟩ := hp.ops
  refine ⟨hp.cfg ▸ h.config, hp.cfg ▸ h.ranges, ?_, ?_, ?_, hp.paced h.paced⟩
  · rw [hp.cfg, hp.ids]
    exact h.ids
  · rw [hp.cfg, hregs]
    exact RegFile.runOps_bounded h.ranges _ h.regs
  · rw [hp.cfg, hp.tx]
    exact h.tx

theorem goto (h : s.Safe) (e : EngineState) : (s.goto e).Safe :=
  ⟨h.config, h.ranges, h.ids, h.regs, h.tx, h.paced⟩

theorem beginTransaction (h : s.Safe) : s.beginTransaction.Safe :=
  ⟨h.config, h.ranges, h.ids, h.regs, ⟨Nat.zero_le _, Nat.zero_le _, ClassMask.zero_legal _⟩, h.paced⟩

theorem setCmd (h : s.Safe) (v : Byte) : (s.setCmd v).Safe :=
  ⟨h.config, h.ranges, h.ids, h.regs, ⟨h.tx.len, h.tx.drainKbd, h.tx.target⟩, h.paced⟩

theorem setReg (h : s.Safe) (r : RegNum) : (s.setReg r).Safe :=
  ⟨h.config, h.ranges, h.ids, h.regs, ⟨h.tx.len, h.tx.drainKbd, h.tx.target⟩, h.paced⟩

theorem setTarget (h : s.Safe) {m : ClassMask} (hm : m.Legal s.cfg) : (s.setTarget m).Safe :=
  ⟨h.config, h.ranges, h.ids, h.regs, ⟨h.tx.len, h.tx.drainKbd, hm⟩, h.paced⟩

theorem withData (h : s.Safe) (buf : Vector Byte 8) {len : Nat} (hl : len ≤ 8) : (s.withData buf len).Safe :=
  ⟨h.config, h.ranges, h.ids, h.regs, ⟨hl, h.tx.drainKbd, h.tx.target⟩, h.paced⟩

/-- A drain record within its bound (R27 item 3). -/
theorem withDrain (h : s.Safe) {n : Nat} (hn : n ≤ 2) (b : BitVec 2) :
    { s with tx := { s.tx with drainKbd := n, drainButtons := b } }.Safe :=
  ⟨h.config, h.ranges, h.ids, h.regs, ⟨h.tx.len, hn, h.tx.target⟩, h.paced⟩

theorem endTx (h : s.Safe) (o : TxOutcome) : (s.endTx o).Safe :=
  ⟨h.config, h.ranges, h.ids, h.regs, h.tx, h.paced⟩

theorem raiseErr (h : s.Safe) (e : Err) : (s.raiseErr e).Safe :=
  ⟨h.config, h.ranges, h.ids, h.regs, ⟨h.tx.len, h.tx.drainKbd, h.tx.target⟩, h.paced⟩

/-- Register-file writes within the bounds. -/
theorem withRegs (h : s.Safe) {r : RegFile} (hr : r.Bounded s.cfg) : { s with regs := r }.Safe :=
  ⟨h.config, h.ranges, h.ids, hr, h.tx, h.paced⟩

/-- Identity writes that stay legal. -/
theorem withIds (h : s.Safe) {d : Identities} (hd : d.Legal s.cfg) : { s with ids := d }.Safe :=
  ⟨h.config, h.ranges, hd, h.regs, h.tx, h.paced⟩

theorem flushClass (h : s.Safe) (k : DevClass) : (s.flushClass k).Safe :=
  h.withRegs (RegFile.flush_bounded h.ranges k h.regs)

theorem drainReg (h : s.Safe) (k : DevClass) (r : RegNum) : (s.drainReg k r).Safe := by
  unfold State.drainReg
  split
  · exact h.withRegs (RegFile.drainR0_bounded h.ranges s.tx k h.regs)
  · exact h

theorem listenReg (h : s.Safe) (k : DevClass) (r : RegNum) (v : Word16) : (s.listenReg k r v).Safe := by
  cases k with
  | kbd => exact h
  | mouse => exact h
  | arb =>
    simp only [State.listenReg]
    split
    · exact h.withRegs ⟨h.regs.queue, h.regs.r0len, h.regs.ready, h.regs.mouse⟩
    · exact h

theorem identityUpdate (h : s.Safe) (k : DevClass) (b0 b1 : Byte) : (s.identityUpdate k b0 b1).Safe :=
  h.withIds (h.ids.set fun hk => Identity.update_legal (h.ids k hk) b0 b1)

theorem deliver (h : s.Safe) (k : DevClass) : (s.deliver k).Safe := by
  unfold State.deliver
  split
  · exact h.identityUpdate k _ _
  · exact h.listenReg k _ _

theorem recordCollision (h : s.Safe) (k : DevClass) : (s.recordCollision k).Safe := by
  unfold State.recordCollision
  split
  · exact h.withIds (h.ids.set fun hk => ⟨(h.ids k hk).addr, (h.ids k hk).handler⟩)
  · exact h

theorem resetClass (h : s.Safe) (k : DevClass) : (s.resetClass k).Safe := by
  unfold State.resetClass
  split
  · exact (h.withIds (h.ids.set fun hk => Identity.default_legal h.config hk)).flushClass k
  · exact h

theorem deviceReset (h : s.Safe) : s.deviceReset.Safe :=
  (((h.resetClass .kbd).resetClass .mouse).resetClass .arb).of_polled (polled_setDrive false _)

theorem powerOn (h : s.Safe) : s.powerOn.Safe :=
  ⟨h.deviceReset.config, h.deviceReset.ranges, h.deviceReset.ids, h.deviceReset.regs, h.deviceReset.tx,
    h.deviceReset.paced⟩

/-! ### Production -/

theorem produceNone (h : s.Safe) : s.produceNone.Safe := h.withData _ (Nat.zero_le 8)

theorem producePair (h : s.Safe) (b0 b1 : Byte) : (s.producePair b0 b1).Safe := h.withData _ (by decide)

theorem produceR0 (h : s.Safe) (k : DevClass) : (s.produceR0 k).Safe := by
  cases k with
  | kbd =>
    simp only [State.produceR0, State.produceKbdR0]
    split
    · exact h.produceNone
    · exact (h.producePair _ _).withDrain (Nat.min_le_right ..) _
  | mouse =>
    simp only [State.produceR0, State.produceMouseR0]
    split
    · have hr : { s.regs with mouse := s.regs.mouse.report s.cfg }.Bounded s.cfg :=
        ⟨h.regs.queue, h.regs.r0len, h.regs.ready, Mouse.report_inRange h.ranges h.regs.mouse⟩
      exact ((h.withRegs hr).producePair _ _).withDrain h.tx.drainKbd _
    · exact h.produceNone
  | arb =>
    simp only [State.produceR0, State.produceArbR0]
    split
    · exact h.withData _ h.regs.r0len
    · exact h.produceNone

theorem produceR2 (h : s.Safe) (k : DevClass) : (s.produceR2 k).Safe := by
  cases k with
  | kbd => exact h.producePair _ _
  | mouse => exact h.produceNone
  | arb =>
    simp only [State.produceR2, State.produceArbR2]
    split
    · exact h.producePair _ _
    · exact h.produceNone

theorem produce (h : s.Safe) (k : DevClass) (r : RegNum) : (s.produce k r).Safe := by
  unfold State.produce
  split
  · exact h.produceR0 k
  · split
    · exact h.produceNone
    · split
      · exact h.produceR2 k
      · exact h.producePair _ _

/-! ### The ends of a step -/

/-- Back in IDLE. -/
theorem inv_idle (h : s.Safe) (hd : s.drive = false) (hs : s.state = .idle) : s.Inv :=
  h.inv hd (by simp [hs]) (by simp [hs]) (by simp [hs])

theorem inv_endTx (h : s.Safe) (o : TxOutcome) : (s.endTx o).Inv := (h.endTx o).inv_idle rfl rfl

theorem inv_raiseErr (h : s.Safe) (e : Err) : (s.raiseErr e).Inv := (h.raiseErr e).inv_idle rfl rfl

/-- The hand-over to a phase before DISPATCH. -/
theorem inv_goto (h : s.Safe) (hd : s.drive = false) {e : EngineState}
    (he : e ∉ [EngineState.talk, EngineState.listen, EngineState.dispatch]) : (s.goto e).Inv := by
  simp only [List.mem_cons, List.not_mem_nil, or_false, not_or] at he
  obtain ⟨ht, hl, hx⟩ := he
  exact (h.goto e).inv hd ht hl (absurd · hx)

theorem srqStart (h : s.Safe) : (srqStart s).Safe :=
  (h.of_polled (polled_timerStart .coarse s)).setTarget (State.matchMask_legal _ _)

end State.Safe

/-! ## Phases that keep the invariant -/

variable {s t : State}

theorem inv_idlePoll (h : s.Inv) (hs : s.state = .idle) : (idlePoll s).Inv := by
  obtain ⟨u, hp, hd, hu | hu⟩ := idlePoll_cases s <;> rw [hu]
  · exact (h.safe.beginTransaction.of_polled hp).inv_idle (hd.trans h.released) (hp.state.trans hs)
  · exact (h.safe.beginTransaction.of_polled hp).inv_goto (hd.trans h.released) (by decide)

theorem inv_classify (h : s.Inv) : (classify s).Inv := by
  obtain ⟨u, hp, hd, hu | hu | hu⟩ := classify_cases s <;> rw [hu]
  · exact (h.safe.of_polled hp).deviceReset.inv_endTx _
  · exact (h.safe.of_polled hp).inv_endTx _
  · exact (h.safe.of_polled hp).inv_goto (hd.trans h.released) (by decide)

theorem inv_syncWindow (h : s.Inv) : (syncWindow s).Inv := by
  obtain ⟨u, hp, hd, hu | hu⟩ := syncWindow_cases s <;> rw [hu]
  · exact (h.safe.of_polled hp).inv_raiseErr _
  · exact (h.safe.of_polled hp).inv_goto (hd.trans h.released) (by decide)

theorem inv_readCommand (h : s.Inv) : (readCommand s).Inv := by
  obtain ⟨u, hp, hd, ⟨e, hu⟩ | ⟨v, hu⟩⟩ := readCommand_cases s <;> rw [hu]
  · exact (h.safe.of_polled hp).inv_raiseErr e
  · exact ((h.safe.of_polled hp).setCmd v).inv_goto (hd.trans h.released) (by decide)

/-- SRQ latches the match of the command byte's address, and nothing up to DISPATCH changes what it depends on (R82,
R84). -/
theorem inv_srqPhase (h : s.Inv) : (srqPhase s).Inv := by
  obtain ⟨u, hp, ⟨e, hu⟩ | ⟨hd, hu⟩⟩ := srqPhase_cases s <;> rw [hu]
  · exact (h.safe.srqStart.of_polled hp).inv_raiseErr e
  · refine ((h.safe.srqStart.of_polled hp).goto _).inv (hd h.released) EngineState.noConfusion
      EngineState.noConfusion fun _ => ?_
    show u.tx.target = u.matchMask (fieldA u.tx.cmd)
    rw [hp.tx, State.matchMask_congr hp.cfg hp.ids]
    rfl

theorem inv_listenPhase (h : s.Safe) (k : DevClass) : (listenPhase k s).Inv := by
  obtain ⟨buf, len, u, hp, hlen, ⟨e, hu⟩ | hu⟩ := listenPhase_cases k s <;> rw [hu]
  · exact ((h.withData buf (hlen h.tx.len)).of_polled hp).inv_raiseErr e
  · exact (((h.withData buf (hlen h.tx.len)).of_polled hp).deliver k).inv_endTx _

theorem inv_talkPhase (h : s.Safe) (k : DevClass) : (talkPhase k s).Inv := by
  obtain ⟨u, hp, hu | ⟨e, -, hu⟩ | hu⟩ := talkPhase_cases k s <;> rw [hu]
  · exact ((h.produce k _).of_polled hp).inv_endTx _
  · exact (((h.produce k _).of_polled hp).recordCollision k).inv_raiseErr e
  · exact (((h.produce k _).of_polled hp).drainReg k _).inv_endTx _

/-- Every command ends in a state with the invariant, whatever the engine's state it is run in. -/
theorem inv_of_executed {i : Instr} (h : s.Safe) (hx : Executed i s t) : t.Inv := by
  have hone (k : DevClass) (hk : s.matchClass i.addr = some k) : (s.setTarget (ClassMask.onehot k)).Safe :=
    h.setTarget (ClassMask.onehot_legal (State.matchClass_sound hk).1)
  cases hx with
  | notAddressed => exact (h.setTarget (ClassMask.zero_legal _)).inv_endTx _
  | talk k r hk => exact inv_talkPhase (((hone k hk).setReg r).goto _) k
  | listen k r hk => exact inv_listenPhase (((hone k hk).setReg r).goto _) k
  | flush k hk => exact ((hone k hk).flushClass k).inv_endTx _
  | reserved k r hk => exact ((hone k hk).setReg r).inv_endTx _

/-! ## The obligations -/

/-- Settles O8: what holds inside every phase (`State.Safe`) with what each phase ends in. -/
theorem stepKeepsInv : Obligations.StepKeepsInv := by
  intro s t h hstep
  cases stepped_of_step hstep with
  | powerOn => exact h.safe.powerOn.inv_idle rfl rfl
  | idle hs => exact inv_idlePoll h hs
  | classify => exact inv_classify h
  | sync => exact inv_syncWindow h
  | command => exact inv_readCommand h
  | srq => exact inv_srqPhase h
  | dispatch _ hx => exact inv_of_executed h.safe hx
  | talk hs => exact absurd hs h.notTalk
  | listen hs => exact absurd hs h.notListen

/-- Settles O7: TC1 is well formed, its default identities are legal, and every bounded register is 0 or cleared. -/
theorem invHoldsAtReset : Obligations.InvHoldsAtReset := by
  have hsafe : State.reset.Safe := by
    refine ⟨by decide, ⟨by decide, by decide, by decide, by decide⟩, fun k _ => ?_,
      ⟨by decide, by decide, by decide, ?_⟩, ⟨by decide, by decide, ClassMask.zero_legal _⟩, by decide⟩
    · cases k <;> exact ⟨by decide, .inl rfl⟩
    · exact Mouse.cleared_inRange ⟨by decide, by decide, by decide, by decide⟩
  exact hsafe.inv_idle rfl rfl

end Sys2Proof.Machine

/-!
SUPPORT. What no step writes, or writes only where the spec says: the configuration (R28), and the addresses and handlers
of the identities (R21); and when a step is refused (R30).
-/

namespace Sys2Proof.Machine

/-! ## The configuration and the identities in the register file's operations -/

section

theorem ProducedFrom.cfg {s t : State} (h : ProducedFrom s t) : t.cfg = s.cfg := by rw [h]

theorem ProducedFrom.ids {s t : State} (h : ProducedFrom s t) : t.ids = s.ids := by rw [h]

variable (s : State)

@[simp] theorem State.produce_cfg (k : DevClass) (r : RegNum) : (s.produce k r).cfg = s.cfg :=
  (s.produce_frame k r).cfg

@[simp] theorem State.produce_ids (k : DevClass) (r : RegNum) : (s.produce k r).ids = s.ids :=
  (s.produce_frame k r).ids

@[simp] theorem State.drainReg_cfg (k : DevClass) (r : RegNum) : (s.drainReg k r).cfg = s.cfg := by
  unfold State.drainReg; split <;> rfl

@[simp] theorem State.drainReg_ids (k : DevClass) (r : RegNum) : (s.drainReg k r).ids = s.ids := by
  unfold State.drainReg; split <;> rfl

@[simp] theorem State.listenReg_cfg (k : DevClass) (r : RegNum) (v : Word16) : (s.listenReg k r v).cfg = s.cfg := by
  cases k with
  | kbd => rfl
  | mouse => rfl
  | arb => simp only [State.listenReg]; split <;> rfl

@[simp] theorem State.listenReg_ids (k : DevClass) (r : RegNum) (v : Word16) : (s.listenReg k r v).ids = s.ids := by
  cases k with
  | kbd => rfl
  | mouse => rfl
  | arb => simp only [State.listenReg]; split <;> rfl

@[simp] theorem State.deliver_cfg (k : DevClass) : (s.deliver k).cfg = s.cfg := by
  unfold State.deliver
  split
  · rfl
  · exact s.listenReg_cfg k _ _

/-- Only a Listen of register 3 reaches the identities (R92, R116, R117). -/
theorem State.deliver_ids_of_ne (k : DevClass) (h : s.tx.reg ≠ 0b11#2) : (s.deliver k).ids = s.ids := by
  rw [State.deliver, if_neg h, State.listenReg_ids]

@[simp] theorem State.recordCollision_cfg (k : DevClass) : (s.recordCollision k).cfg = s.cfg := by
  unfold State.recordCollision; split <;> rfl

@[simp] theorem State.resetClass_cfg (k : DevClass) : (s.resetClass k).cfg = s.cfg := by
  unfold State.resetClass; split <;> rfl

@[simp] theorem State.deviceReset_cfg : s.deviceReset.cfg = s.cfg := by simp [State.deviceReset]

@[simp] theorem State.powerOn_cfg : s.powerOn.cfg = s.cfg := s.deviceReset_cfg

end

variable {s t : State}

theorem talkPhase_cfg (k : DevClass) (s : State) : (talkPhase k s).cfg = s.cfg := by
  obtain ⟨u, hp, hu | ⟨e, -, hu⟩ | hu⟩ := talkPhase_cases k s <;> simp [hu, hp.cfg]

theorem listenPhase_cfg (k : DevClass) (s : State) : (listenPhase k s).cfg = s.cfg := by
  obtain ⟨buf, len, u, hp, -, ⟨e, hu⟩ | hu⟩ := listenPhase_cases k s <;> simp [hu, hp.cfg, State.withData]

theorem cfg_of_executed {i : Instr} (h : Executed i s t) : t.cfg = s.cfg := by
  cases h with
  | notAddressed => rfl
  | talk k r => exact talkPhase_cfg k _
  | listen k r => exact listenPhase_cfg k _
  | flush k => rfl
  | reserved k r => rfl

theorem cfg_of_stepped (h : Stepped s t) : t.cfg = s.cfg := by
  cases h with
  | powerOn => exact s.powerOn_cfg
  | idle => obtain ⟨u, hp, -, hu | hu⟩ := idlePoll_cases s <;> simp [hu, hp.cfg]
  | classify => obtain ⟨u, hp, -, hu | hu | hu⟩ := classify_cases s <;> simp [hu, hp.cfg]
  | sync => obtain ⟨u, hp, -, hu | hu⟩ := syncWindow_cases s <;> simp [hu, hp.cfg]
  | command => obtain ⟨u, hp, -, ⟨e, hu⟩ | ⟨v, hu⟩⟩ := readCommand_cases s <;> simp [hu, hp.cfg]
  | srq => obtain ⟨u, hp, ⟨e, hu⟩ | ⟨-, hu⟩⟩ := srqPhase_cases s <;> simp [hu, hp.cfg, srqStart]
  | dispatch _ hx => exact cfg_of_executed hx
  | talk _ k => exact talkPhase_cfg k s
  | listen _ k => exact listenPhase_cfg k s

/-- Settles O6: every move of a step leaves the configuration. -/
theorem stepLeavesConfiguration : Obligations.StepLeavesConfiguration :=
  fun _ _ h => cfg_of_stepped (stepped_of_step h)

/-! ## Refusal -/

/-- A step is refused for the configuration's own check and for nothing else: every phase and every command goes on or
faults. -/
theorem step_refused_iff (s : State) : step s = .refused .illFormedConfiguration ↔ s.cfg.wf = false := by
  constructor
  · intro h
    unfold step at h
    split at h
    · assumption
    · split at h
      · cases h
      · split at h
        case h_6 =>
          obtain ⟨t, ht, -⟩ := exec_executed s.fetched s
          rw [ht] at h
          cases h
        case h_7 => cases hk : s.tx.target.first <;> simp [resumeTalk, hk] at h
        case h_8 => cases hk : s.tx.target.first <;> simp [resumeListen, hk] at h
        all_goals cases h
  · intro h
    simp [step, h]

/-- Settles O5: the refusal is that of `Config.wf`, read condition by condition. -/
theorem configurationRefusedExactly : Obligations.ConfigurationRefusedExactly := by
  intro s
  rw [step_refused_iff, ← Bool.not_eq_true, not_iff_not]
  simp only [Config.wf, Bool.and_eq_true, Config.w1_iff, Config.w2, Config.w3, Config.w4, Config.w5, Config.w6,
    Config.w7_iff, Config.w8_iff, Config.w9, decide_eq_true_eq, and_assoc]

/-! ## Addresses and handlers -/

/-- Every class has the address and the handler it had. -/
def SameIdentity (s t : State) : Prop :=
  ∀ k, (t.ids.get k).addr = (s.ids.get k).addr ∧ (t.ids.get k).handler = (s.ids.get k).handler

theorem SameIdentity.of_ids (h : t.ids = s.ids) : SameIdentity s t := fun _ => by rw [h]; exact ⟨rfl, rfl⟩

theorem SameIdentity.trans {u : State} (h1 : SameIdentity s t) (h2 : SameIdentity t u) : SameIdentity s u :=
  fun k => ⟨(h2 k).1.trans (h1 k).1, (h2 k).2.trans (h1 k).2⟩

/-- The collision flag is no part of the address and handler (R119). -/
theorem recordCollision_sameIdentity (k : DevClass) (s : State) : SameIdentity s (s.recordCollision k) := by
  unfold State.recordCollision
  split
  · intro j
    by_cases hjk : j = k
    · subst hjk
      simp
    · simp [hjk]
  · exact .of_ids rfl

theorem talkPhase_sameIdentity (k : DevClass) (s : State) : SameIdentity s (talkPhase k s) := by
  obtain ⟨u, hp, hu | ⟨e, -, hu⟩ | hu⟩ := talkPhase_cases k s <;> rw [hu] <;>
    have hids : u.ids = s.ids := hp.ids.trans (s.produce_ids k _)
  · exact .of_ids hids
  · exact (SameIdentity.of_ids hids).trans (recordCollision_sameIdentity k u)
  · exact .of_ids ((u.drainReg_ids k _).trans hids)

/-- A Listen writes an identity only as a register 3's payload delivered whole (R92, R118). -/
theorem listenPhase_sameIdentity_or (k : DevClass) (s : State) :
    SameIdentity s (listenPhase k s) ∨ s.tx.reg = 0b11#2 ∧ (listenPhase k s).outcome = .listenOk := by
  obtain ⟨buf, len, u, hp, -, ⟨e, hu⟩ | hu⟩ := listenPhase_cases k s <;> rw [hu]
  · exact .inl (.of_ids hp.ids)
  · have hreg : u.tx.reg = s.tx.reg := by rw [hp.tx]; rfl
    by_cases h3 : s.tx.reg = 0b11#2
    · exact .inr ⟨h3, rfl⟩
    · exact .inl (.of_ids ((u.deliver_ids_of_ne k (hreg ▸ h3)).trans hp.ids))

theorem sameIdentity_of_executed {i : Instr} (h : Executed i s t) :
    SameIdentity s t ∨ t.outcome = .listenOk ∧ ∃ a, i = .listenR3 a := by
  cases h with
  | notAddressed => exact .inl (.of_ids rfl)
  | talk k r => exact .inl (talkPhase_sameIdentity k _)
  | listen k r _ hr =>
    obtain hs | ⟨h3, ho⟩ := listenPhase_sameIdentity_or k
      (((s.setTarget (ClassMask.onehot k)).setReg r).goto .listen)
    · exact .inl hs
    · exact .inr ⟨ho, hr h3⟩
  | flush k => exact .inl (.of_ids rfl)
  | reserved k r => exact .inl (.of_ids rfl)

/-- Settles O46: of all moves only the bus reset, the power-on and a delivered Listen of register 3 write an address or a
handler. -/
theorem identityChangesOnlyByListenR3OrReset : Obligations.IdentityChangesOnlyByListenR3OrReset := by
  intro s t hinv hstep
  cases stepped_of_step hstep with
  | powerOn hr hb => exact .inr (.inr (.inl ⟨hr, hb⟩))
  | idle => obtain ⟨u, hp, -, hu | hu⟩ := idlePoll_cases s <;> rw [hu] <;> exact .inl (SameIdentity.of_ids hp.ids)
  | classify hs =>
    obtain ⟨u, hp, -, hu | hu | hu⟩ := classify_cases s <;> rw [hu]
    · exact .inr (.inl ⟨hs, rfl, rfl⟩)
    · exact .inl (SameIdentity.of_ids hp.ids)
    · exact .inl (SameIdentity.of_ids hp.ids)
  | sync => obtain ⟨u, hp, -, hu | hu⟩ := syncWindow_cases s <;> rw [hu] <;> exact .inl (SameIdentity.of_ids hp.ids)
  | command =>
    obtain ⟨u, hp, -, ⟨e, hu⟩ | ⟨v, hu⟩⟩ := readCommand_cases s <;> rw [hu] <;>
      exact .inl (SameIdentity.of_ids hp.ids)
  | srq =>
    obtain ⟨u, hp, ⟨e, hu⟩ | ⟨-, hu⟩⟩ := srqPhase_cases s <;> rw [hu] <;>
      exact .inl (SameIdentity.of_ids hp.ids)
  | dispatch hs hx =>
    obtain hsame | ⟨ho, a, ha⟩ := sameIdentity_of_executed hx
    · exact .inl hsame
    · exact .inr (.inr (.inr ⟨hs, ho, a, ha⟩))
  | talk hs => exact absurd hs hinv.notTalk
  | listen hs => exact absurd hs hinv.notListen

end Sys2Proof.Machine

/-!
SUPPORT. What reaches the device registers before DISPATCH: INGEST writes no register of an absent class (R129), and the
device reset writes every register of a present one (R157). A device reset therefore ends in the same device state with
INGEST's operations before it as without them.
-/

namespace Sys2Proof.Machine

/-! ## INGEST and the absent classes -/

/-- The two register files hold the same in the registers of every absent class. -/
structure RegFile.SameAbsent (c : Config) (r r' : RegFile) : Prop where
  kbd : c.present .kbd = false → r'.kbd = r.kbd
  mouse : c.present .mouse = false → r'.mouse = r.mouse
  arb : c.present .arb = false → r'.arb = r.arb

namespace RegFile.SameAbsent

variable {c : Config}

theorem refl (r : RegFile) : SameAbsent c r r := ⟨fun _ => rfl, fun _ => rfl, fun _ => rfl⟩

theorem trans {r r' r'' : RegFile} (h1 : SameAbsent c r r') (h2 : SameAbsent c r' r'') : SameAbsent c r r'' :=
  ⟨fun ha => (h2.kbd ha).trans (h1.kbd ha), fun ha => (h2.mouse ha).trans (h1.mouse ha),
    fun ha => (h2.arb ha).trans (h1.arb ha)⟩

theorem withKbd (h : c.present .kbd = true) (r : RegFile) (x : Keyboard) : SameAbsent c r { r with kbd := x } :=
  ⟨fun ha => by simp [h] at ha, fun _ => rfl, fun _ => rfl⟩

theorem withMouse (h : c.present .mouse = true) (r : RegFile) (x : Mouse) : SameAbsent c r { r with mouse := x } :=
  ⟨fun _ => rfl, fun ha => by simp [h] at ha, fun _ => rfl⟩

theorem withArb (h : c.present .arb = true) (r : RegFile) (x : Arbitrary) : SameAbsent c r { r with arb := x } :=
  ⟨fun _ => rfl, fun _ => rfl, fun ha => by simp [h] at ha⟩

end RegFile.SameAbsent

/-- An operation writes its own class alone (R130 to R139). -/
theorem RegFile.perform_sameAbsent (c : Config) (r : RegFile) (op : IngestOp)
    (h : ∀ k, op.cls = some k → c.present k = true) : SameAbsent c r (r.perform c op).1 := by
  cases op with
  | nop => exact .refl r
  | kbdPushSingle x => exact .withKbd (h .kbd rfl) r _
  | kbdPushPair a b => exact .withKbd (h .kbd rfl) r _
  | kbdSetR2 v => exact .withKbd (h .kbd rfl) r _
  | mouseMove dx dy => exact .withMouse (h .mouse rfl) r _
  | mouseButtons b =>
    simp only [RegFile.perform]
    split
    · exact .refl r
    · exact .withMouse (h .mouse rfl) r _
  | arbLoadR0 d => exact .withArb (h .arb rfl) r _
  | arbR0Status => exact .refl r
  | arbWriteR2 v => exact .withArb (h .arb rfl) r _
  | arbReadR2 => exact .refl r

/-- An operation of an absent class is refused (R129). -/
theorem RegFile.ingest_sameAbsent (c : Config) (op : IngestOp) (r : RegFile) : SameAbsent c r (r.ingest c op).1 := by
  unfold RegFile.ingest
  split
  · next hc => exact r.perform_sameAbsent c op fun k hk => by simp [hc] at hk
  · next j hc =>
    split
    · next hp => exact r.perform_sameAbsent c op fun k hk => by rw [hc] at hk; cases hk; exact hp
    · exact .refl r

theorem RegFile.runOps_sameAbsent (c : Config) (ops : List IngestOp) (r : RegFile) :
    SameAbsent c r (RegFile.runOps c ops r) := by
  induction ops generalizing r with
  | nil => exact .refl r
  | cons op rest ih => exact (r.ingest_sameAbsent c op).trans (ih _)

theorem Polled.sameAbsent {s u : State} (h : Polled s u) : RegFile.SameAbsent s.cfg s.regs u.regs := by
  obtain ⟨n, -, hr⟩ := h.ops
  rw [hr]
  exact RegFile.runOps_sameAbsent ..

/-! ## The device reset -/

/-- A word is its two bytes, the upper one first (R36). -/
theorem wordOf_hiByte_loByte (v : Word16) : wordOf (hiByte v) (loByte v) = v :=
  (BitVec.extractLsb'_append_extractLsb'_eq_extractLsb' (start₁ := 0) (len₁ := 8) (len₂ := 8) rfl).trans
    BitVec.extractLsb'_eq_self

theorem Keyboard.cleared_kq (c : Config) : (Keyboard.cleared c).kq = Vector.replicate 16 0#8 := rfl

theorem Arbitrary.cleared_r0buf : Arbitrary.cleared.r0buf = Vector.replicate 8 0#8 := rfl

theorem State.resetClass_regs (k : DevClass) (s : State) :
    (s.resetClass k).regs = if s.cfg.present k then s.regs.flush s.cfg k else s.regs := by
  unfold State.resetClass; split <;> rfl

theorem State.resetClass_ids_get_same (k : DevClass) (s : State) :
    (s.resetClass k).ids.get k =
      if s.cfg.present k then Identity.default (s.cfg.classCfg k) else s.ids.get k := by
  unfold State.resetClass; split <;> simp

theorem State.resetClass_ids_get_of_ne {j k : DevClass} (h : j ≠ k) (s : State) :
    (s.resetClass k).ids.get j = s.ids.get j := by
  unfold State.resetClass; split <;> simp [h]

theorem State.deviceReset_ids_get (k : DevClass) (s : State) :
    s.deviceReset.ids.get k =
      if s.cfg.present k then Identity.default (s.cfg.classCfg k) else s.ids.get k := by
  cases k <;> simp [State.deviceReset, State.resetClass_ids_get_same, State.resetClass_ids_get_of_ne]

theorem State.deviceReset_regs (s : State) :
    s.deviceReset.regs =
      { kbd := if s.cfg.present .kbd then Keyboard.cleared s.cfg else s.regs.kbd
        mouse := if s.cfg.present .mouse then Mouse.cleared else s.regs.mouse
        arb := if s.cfg.present .arb then Arbitrary.cleared else s.regs.arb } := by
  simp only [State.deviceReset, State.setDrive_regs, State.resetClass_regs, State.resetClass_cfg]
  split_ifs <;> rfl

/-- The device reset, class by class (R157). -/
theorem State.deviceReset_after (s : State) : AfterDeviceReset s s.deviceReset where
  identity k hk := by rw [s.deviceReset_ids_get, if_pos hk]; rfl
  absent k hk := by simp [s.deviceReset_ids_get, hk]
  kbd hk := by
    simp only [s.deviceReset_regs, if_pos hk]
    exact ⟨rfl, rfl, by simp [Keyboard.cleared_kq], wordOf_hiByte_loByte _⟩
  mouse hk := by simp only [s.deviceReset_regs, if_pos hk, Mouse.cleared]
  arb hk := by
    simp only [s.deviceReset_regs, if_pos hk]
    exact ⟨by simp [Arbitrary.cleared_r0buf], rfl, rfl, rfl, rfl⟩
  kbdAbsent hk := by simp [s.deviceReset_regs, hk]
  mouseAbsent hk := by simp [s.deviceReset_regs, hk]
  arbAbsent hk := by simp [s.deviceReset_regs, hk]

/-- The relation speaks of the device state alone. -/
theorem AfterDeviceReset.of_same {s t t' : State} (h : AfterDeviceReset s t) (hi : t'.ids = t.ids)
    (hr : t'.regs = t.regs) : AfterDeviceReset s t' := by
  obtain ⟨identity, absent, kbd, mouse, arb, kbdAbsent, mouseAbsent, arbAbsent⟩ := h
  rw [← hi] at identity absent
  rw [← hr] at kbd mouse arb kbdAbsent mouseAbsent arbAbsent
  exact ⟨identity, absent, kbd, mouse, arb, kbdAbsent, mouseAbsent, arbAbsent⟩

/-- Engine events before a device reset leave no trace in the device state it ends in: what INGEST wrote belongs to
present classes, and those are reset (R129, R157). -/
theorem AfterDeviceReset.of_polled {s u t : State} (hp : Polled s u) (h : AfterDeviceReset u t) :
    AfterDeviceReset s t where
  identity k hk := by rw [← hp.cfg] at hk ⊢; exact h.identity k hk
  absent k hk := (h.absent k (hp.cfg ▸ hk)).trans (by rw [hp.ids])
  kbd hk := by rw [← hp.cfg] at hk ⊢; exact h.kbd hk
  mouse hk := h.mouse (hp.cfg ▸ hk)
  arb hk := h.arb (hp.cfg ▸ hk)
  kbdAbsent hk := (h.kbdAbsent (hp.cfg ▸ hk)).trans (hp.sameAbsent.kbd hk)
  mouseAbsent hk := (h.mouseAbsent (hp.cfg ▸ hk)).trans (hp.sameAbsent.mouse hk)
  arbAbsent hk := (h.arbAbsent (hp.cfg ▸ hk)).trans (hp.sameAbsent.arb hk)

/-! ## The phases before DISPATCH -/

/-- From `s` to `t` no identity has changed, and the registers only by INGEST's next operations (R39). -/
def DevicesLeftToIngest (s t : State) : Prop := t.ids = s.ids ∧ ingestedOnly s t s.regs

theorem Polled.devices {s t : State} (h : Polled s t) : DevicesLeftToIngest s t := ⟨h.ids, h.ops⟩

theorem idlePoll_devices (s : State) : DevicesLeftToIngest s (idlePoll s) := by
  obtain ⟨u, hp, -, hu | hu⟩ := idlePoll_cases s <;> rw [hu] <;> exact hp.devices

theorem classify_devices (s : State) :
    DevicesLeftToIngest s (classify s) ∨
      (classify s).outcome = .reset ∧ (classify s).state = .idle ∧ AfterDeviceReset s (classify s) := by
  obtain ⟨u, hp, -, hu | hu | hu⟩ := classify_cases s <;> rw [hu]
  · exact .inr ⟨rfl, rfl, (u.deviceReset_after.of_polled hp).of_same rfl rfl⟩
  · exact .inl hp.devices
  · exact .inl hp.devices

theorem syncWindow_devices (s : State) : DevicesLeftToIngest s (syncWindow s) := by
  obtain ⟨u, hp, -, hu | hu⟩ := syncWindow_cases s <;> rw [hu] <;> exact hp.devices

theorem readCommand_devices (s : State) : DevicesLeftToIngest s (readCommand s) := by
  obtain ⟨u, hp, -, ⟨e, hu⟩ | ⟨v, hu⟩⟩ := readCommand_cases s <;> rw [hu] <;> exact hp.devices

theorem srqPhase_devices (s : State) : DevicesLeftToIngest s (srqPhase s) := by
  obtain ⟨u, hp, ⟨e, hu⟩ | ⟨-, hu⟩⟩ := srqPhase_cases s <;> rw [hu] <;> exact hp.devices

/-- Settles O48: each phase before DISPATCH is engine events up to its end, and only the bus reset's end writes a device
register. -/
theorem earlyPhasesLeaveDevicesToIngest : Obligations.EarlyPhasesLeaveDevicesToIngest := by
  intro s t hdue hstep hstate
  cases stepped_of_step hstep with
  | powerOn hr hb => simp [noPowerOnDue, hr, hb] at hdue
  | idle => exact .inl (idlePoll_devices s)
  | classify hs => exact (classify_devices s).imp_right fun h => ⟨hs, h⟩
  | sync => exact .inl (syncWindow_devices s)
  | command => exact .inl (readCommand_devices s)
  | srq => exact .inl (srqPhase_devices s)
  | dispatch hs => simp [hs] at hstate
  | talk hs => simp [hs] at hstate
  | listen hs => simp [hs] at hstate

end Sys2Proof.Machine

/-!
SUPPORT. The command byte taken apart: the decoder said on the fields `A`, `C` and `R` (R55), the encoder on the rows that
the decoder selects (R56), and from these that each undoes the other.
-/

namespace Sys2Proof

/-! ## The fields of a command byte -/

@[simp] theorem fieldA_append (a : BusAddr) (c : BitVec 2) (r : RegNum) : fieldA (a ++ (c ++ r)) = a :=
  BitVec.extractLsb'_append_eq_left

@[simp] theorem lowNibble_append (a : BusAddr) (c : BitVec 2) (r : RegNum) : lowNibble (a ++ (c ++ r)) = c ++ r :=
  BitVec.extractLsb'_append_eq_right

@[simp] theorem fieldC_append (a : BusAddr) (c : BitVec 2) (r : RegNum) : fieldC (a ++ (c ++ r)) = c :=
  (BitVec.extractLsb'_append_eq_of_add_le (by decide)).trans BitVec.extractLsb'_append_eq_left

@[simp] theorem fieldR_append (a : BusAddr) (c : BitVec 2) (r : RegNum) : fieldR (a ++ (c ++ r)) = r :=
  (BitVec.extractLsb'_append_eq_of_add_le (by decide)).trans BitVec.extractLsb'_append_eq_right

/-- A command byte is its three fields, `A` first (R55). -/
theorem fieldA_append_fieldC_append_fieldR (b : Byte) : fieldA b ++ (fieldC b ++ fieldR b) = b := by
  have hnibble : fieldC b ++ fieldR b = lowNibble b := BitVec.extractLsb'_append_extractLsb'_eq_extractLsb' rfl
  rw [hnibble]
  exact (BitVec.extractLsb'_append_extractLsb'_eq_extractLsb' rfl).trans BitVec.extractLsb'_eq_self

/-- Flush's low nibble in the fields `C` and `R` (R55). -/
theorem append_eq_flushNibble_iff (c : BitVec 2) (r : RegNum) :
    c ++ r = 0b0001#4 ↔ c = 0b00#2 ∧ r = 0b01#2 := by
  revert c r; decide

/-- The four values of a command code or a register number (R55). -/
theorem twoBitField_cases (x : BitVec 2) : x = 0b00#2 ∨ x = 0b01#2 ∨ x = 0b10#2 ∨ x = 0b11#2 := by
  revert x; decide

/-! ## Decoder and encoder on the fields -/

/-- The decoder as a function of the three fields (R55, R85). -/
theorem decodeByte_append (a : BusAddr) (c : BitVec 2) (r : RegNum) :
    decodeByte (a ++ (c ++ r)) =
      if c = 0b00#2 ∧ r = 0b01#2 then .flush a
      else if c = 0b11#2 then talkOf a r
      else if c = 0b10#2 then listenOf a r
      else reservedOf a c r := by
  simp only [decodeByte, fieldA_append, lowNibble_append, fieldC_append, fieldR_append, append_eq_flushNibble_iff]

theorem encodeByte_talkOf (a : BusAddr) (r : RegNum) : encodeByte (talkOf a r) = a ++ (0b11#2 ++ r) := by
  obtain rfl | rfl | rfl | rfl := twoBitField_cases r <;> rfl

theorem encodeByte_listenOf (a : BusAddr) (r : RegNum) : encodeByte (listenOf a r) = a ++ (0b10#2 ++ r) := by
  obtain rfl | rfl | rfl | rfl := twoBitField_cases r <;> rfl

/-- A reserved row stands for its own low nibble, which is neither Flush's, Talk's nor Listen's (R56, R98). -/
theorem encodeByte_reservedOf (a : BusAddr) {c : BitVec 2} {r : RegNum} (hflush : ¬(c = 0b00#2 ∧ r = 0b01#2))
    (htalk : c ≠ 0b11#2) (hlisten : c ≠ 0b10#2) : encodeByte (reservedOf a c r) = a ++ (c ++ r) := by
  obtain rfl | rfl | rfl | rfl := twoBitField_cases c
  · obtain rfl | rfl | rfl | rfl := twoBitField_cases r
    · rfl
    · exact absurd ⟨rfl, rfl⟩ hflush
    · rfl
    · rfl
  · rfl
  · exact absurd rfl hlisten
  · exact absurd rfl htalk

/-! ## Each undoes the other -/

/-- Every row's low nibble is told apart from every other row's (R56). -/
theorem decodeByte_encodeByte (i : Instr) : decodeByte (encodeByte i) = i := by
  cases i with
  | talkR0 a => exact decodeByte_append a 0b11#2 0b00#2
  | talkR1 a => exact decodeByte_append a 0b11#2 0b01#2
  | talkR2 a => exact decodeByte_append a 0b11#2 0b10#2
  | talkR3 a => exact decodeByte_append a 0b11#2 0b11#2
  | listenR0 a => exact decodeByte_append a 0b10#2 0b00#2
  | listenR1 a => exact decodeByte_append a 0b10#2 0b01#2
  | listenR2 a => exact decodeByte_append a 0b10#2 0b10#2
  | listenR3 a => exact decodeByte_append a 0b10#2 0b11#2
  | flush a => exact decodeByte_append a 0b00#2 0b01#2
  | rsv0 a => exact decodeByte_append a 0b00#2 0b00#2
  | rsv2 a => exact decodeByte_append a 0b00#2 0b10#2
  | rsv3 a => exact decodeByte_append a 0b00#2 0b11#2
  | rsv4 a r => exact decodeByte_append a 0b01#2 r

theorem encodeByte_decodeByte_append (a : BusAddr) (c : BitVec 2) (r : RegNum) :
    encodeByte (decodeByte (a ++ (c ++ r))) = a ++ (c ++ r) := by
  rw [decodeByte_append]
  split_ifs with hflush htalk hlisten
  · obtain ⟨rfl, rfl⟩ := hflush
    rfl
  · rw [htalk, encodeByte_talkOf]
  · rw [hlisten, encodeByte_listenOf]
  · exact encodeByte_reservedOf a hflush htalk hlisten

/-- Settles O2: a command is one byte (R58), and the decoder reads that byte's row and operands back. -/
theorem decodeOfEncode : Obligations.DecodeOfEncode := by
  intro i rest _
  show Except.ok (decodeByte (encodeByte i), rest) = .ok (i, rest)
  rw [decodeByte_encodeByte]

/-- Settles O1: the decoder evaluates to the named row and operands on each of the thirteen bytes. -/
theorem commandBytesDecode : Obligations.CommandBytesDecode := by
  unfold Obligations.CommandBytesDecode
  and_intros <;> rfl

/-- Settles O3: every byte is its three fields, and the row that the decoder selects from them has the same fields. -/
theorem encodeOfDecode : Obligations.EncodeOfDecode := by
  intro b
  rw [← fieldA_append_fieldC_append_fieldR b]
  exact encodeByte_decodeByte_append ..

end Sys2Proof

/-!
SUPPORT. The bytes that production leaves for a Talk: a pair of bytes as payload, and from it the mouse's report (R108) and
the identity register (R114).
-/

namespace Sys2Proof.Machine

/-! ## Production by register -/

theorem State.produce_r0 (k : DevClass) (s : State) : s.produce k 0b00#2 = s.produceR0 k := rfl

theorem State.produce_r3 (k : DevClass) (s : State) : s.produce k 0b11#2 = s.produceR3 k := rfl

/-- A pair is what the Talk sends: the first two bytes of the buffer (R87). -/
@[simp] theorem State.payload_producePair (b0 b1 : Byte) (s : State) : (s.producePair b0 b1).payload = [b0, b1] := by
  simp [State.payload, State.producePair, List.take_add_one]

/-- What the mouse has to report (R101). -/
theorem Mouse.pending_iff (m : Mouse) :
    m.pending = true ↔ m.repButtons ≠ m.curButtons ∨ m.accX ≠ 0 ∨ m.accY ≠ 0 := by
  simp only [Mouse.pending, Bool.or_eq_true, bne_iff_ne, or_assoc]

/-! ## The mouse's report and the identity register -/

/-- Settles O28: a mouse with something to report sends a pair, and the report writes the reported deltas and the drain
record beside it. -/
theorem mouseTalkBytes : Obligations.MouseTalkBytes := by
  intro s h
  have hpending : s.regs.mouse.pending = true := (Mouse.pending_iff _).mpr h
  have hpayload := State.payload_producePair
    (mouseByte (s.regs.mouse.curButtons.getLsbD 0) (s.regs.mouse.report s.cfg).repDy)
    (mouseByte (s.regs.mouse.curButtons.getLsbD 1) (s.regs.mouse.report s.cfg).repDx) s
  simp only [State.produce_r0, State.produceR0, State.produceMouseR0, if_pos hpending]
  exact ⟨_, _, rfl, rfl, hpayload, rfl, rfl⟩

/-- Settles O30: register 3 of every class sends a pair, and a pair writes the transmit buffer alone. -/
theorem identityTalkBytes : Obligations.IdentityTalkBytes := by
  intro s k
  rw [State.produce_r3]
  exact ⟨State.payload_producePair .., rfl, rfl⟩

end Sys2Proof.Machine

/-!
SUPPORT. The counter as a function of time (R65 to R67), and where waits and holds end for every spacing of polls (R69
to R71): what a well-formed configuration gives them is stated here once, for the proofs at the reference spacing too.
-/

namespace Sys2Proof

/-! ## What a well-formed configuration gives the waits (R30) -/

/-- W1 of one field. -/
theorem Config.field_bounds {c : Config} (h : c.wf = true) {f : Res × Nat} (hf : f ∈ c.timing.fields) :
    1 ≤ f.2 ∧ f.2 ≤ 255 := by
  simp only [Config.wf, Bool.and_eq_true] at h
  obtain ⟨⟨⟨⟨⟨⟨⟨⟨h1, -⟩, -⟩, -⟩, -⟩, -⟩, -⟩, -⟩, -⟩ := h
  exact c.w1_iff.mp h1 f hf

theorem Config.tBitLowMax_le {c : Config} (h : c.wf = true) : c.timing.tBitLowMax ≤ 255 :=
  (Config.field_bounds h (f := (.fine, c.timing.tBitLowMax)) (by simp [Timing.fields])).2

theorem Config.tBitHighMax_le {c : Config} (h : c.wf = true) : c.timing.tBitHighMax ≤ 255 :=
  (Config.field_bounds h (f := (.fine, c.timing.tBitHighMax)) (by simp [Timing.fields])).2

theorem Config.one_le_tBitLowMin {c : Config} (h : c.wf = true) : 1 ≤ c.timing.tBitLowMin :=
  (Config.field_bounds h (f := (.fine, c.timing.tBitLowMin)) (by simp [Timing.fields])).1

/-- W4. -/
theorem Config.split_bounds {c : Config} (h : c.wf = true) :
    c.timing.tBitLowMin < c.timing.tBitSplit ∧ c.timing.tBitSplit < c.timing.tBitLowMax := by
  simp only [Config.wf, Bool.and_eq_true] at h
  obtain ⟨⟨⟨⟨⟨⟨-, h4⟩, -⟩, -⟩, -⟩, -⟩, -⟩ := h
  simpa [Config.w4] using h4

/-- W9. -/
theorem Config.ratio_bounds {c : Config} (h : c.wf = true) : 2 ≤ c.coarseRatio ∧ 1 ≤ c.pollGap := by
  simp only [Config.wf, Bool.and_eq_true] at h
  simpa [Config.w9] using h.2

@[simp] theorem Config.rTicks_fine (c : Config) : c.rTicks .fine = 1 := rfl

theorem Config.one_le_rTicks {c : Config} (h : c.wf = true) (r : Res) : 1 ≤ c.rTicks r := by
  cases r with
  | fine => exact Nat.le_refl 1
  | coarse => exact Nat.le_of_succ_le (Config.ratio_bounds h).1

end Sys2Proof

namespace Sys2Proof.Machine

/-! ## The counter -/

/-- A counter that does not run reads 0 (R67). -/
theorem State.count_of_not_running (s : State) (h : s.timer.running = false) : s.count = 0#8 := by
  simp [State.count, h]

/-- A running counter shows the elapsed ticks of its resolution modulo 256 (R65). -/
theorem State.count_toNat_of_running (s : State) (h : s.timer.running = true) :
    s.count.toNat = (s.now - s.timer.t0) / s.cfg.rTicks s.timer.res % 256 := by
  simp [State.count, h]

/-- The count that a wait's poll reads, before the wrap (R65, R69). -/
theorem State.waitPoll_ticks (ing : Bool) (s : State) (hrun : s.timer.running = true)
    (h : s.now - s.timer.t0 < 256 * s.cfg.rTicks s.timer.res) :
    (s.waitPoll ing).ticks = (s.now - s.timer.t0) / s.cfg.rTicks s.timer.res := by
  rw [State.ticks_of_lt] <;> simp only [State.waitPoll_timer, State.waitPoll_cfg, State.waitPoll_now]
  exacts [hrun, h]

/-- Settles O55: the counter's equations, at `d` fine ticks after a start and after a stop. -/
theorem counterFollowsTime : Obligations.CounterFollowsTime := by
  intro s r d
  refine ⟨?_, s.count_of_not_running, rfl, State.count_of_not_running _ rfl, rfl⟩
  have h := ((s.startTimerNow r).advance d).count_toNat_of_running rfl
  simpa using h

/-! ## Waits and holds for every spacing -/

/-- The last poll of a wait's loop comes before the limit or within `POLL_GAP` of a poll that does (R69). -/
theorem pollLoop_last_poll (lvl : Bool) (T : Nat) (ing : Bool) (n : Nat) (s : State) (hc : Counting s)
    (hg : 1 ≤ s.cfg.pollGap) (hr : 1 ≤ s.cfg.rTicks s.timer.res)
    (hw : T * s.cfg.rTicks s.timer.res + s.cfg.pollGap ≤ 256 * s.cfg.rTicks s.timer.res)
    (hd : s.now < s.timer.t0 + T * s.cfg.rTicks s.timer.res + s.cfg.pollGap) :
    (pollLoop lvl T ing n s).1.now < s.timer.t0 + T * s.cfg.rTicks s.timer.res + s.cfg.pollGap := by
  induction n generalizing s with
  | zero => exact hd
  | succ n ih =>
    have hc1 := hc.of_polled (polled_waitPoll ing s) (s.waitPoll_timer ing)
    have hs := hc.since
    have ht := s.waitPoll_ticks ing hc.running (by omega)
    simp only [pollLoop]
    split
    · rwa [State.waitPoll_now]
    · split
      · rwa [State.waitPoll_now]
      · next h =>
        rw [ht, Nat.le_div_iff_mul_le hr] at h
        have hstep := (s.waitPoll ing).toPoll_one_now hc1.paced (by simpa using hg)
        simp only [State.waitPoll_now, State.waitPoll_cfg] at hstep
        have := ih ((s.waitPoll ing).toPoll 1) (hc1.of_polled (polled_toPoll 1 _) rfl) (by simpa using hg)
          (by simpa using hr) (by simpa using hw)
          (by simp only [State.toPoll_timer, State.toPoll_cfg, State.waitPoll_timer, State.waitPoll_cfg]; omega)
        simpa using this

/-- A wait that starts with the timer makes its last poll less than `POLL_GAP` after the limit (R69, R152). -/
theorem pollUntil_last_poll (lvl : Bool) (T : Nat) (ing : Bool) (s : State) (hc : Counting s)
    (hg : 1 ≤ s.cfg.pollGap) (hr : 1 ≤ s.cfg.rTicks s.timer.res) (hT : 1 ≤ T)
    (hw : T * s.cfg.rTicks s.timer.res + s.cfg.pollGap ≤ 256 * s.cfg.rTicks s.timer.res)
    (hnow : s.now = s.timer.t0) :
    (pollUntil lvl T ing s).1.now < s.timer.t0 + T * s.cfg.rTicks s.timer.res + s.cfg.pollGap := by
  have hp := (polled_dueBy (s.waitDue lvl) s).trans (polled_toPoll 0 _)
  have hfirst := (s.dueBy (s.waitDue lvl)).pollGapFrom_le 0
  have hpos : 1 ≤ T * s.cfg.rTicks s.timer.res := Nat.mul_pos hT hr
  have hpaced := hc.paced
  simp only [State.dueBy_slack] at hfirst
  exact pollLoop_last_poll lvl T ing (s.pollBound T) ((s.dueBy (s.waitDue lvl)).toPoll 0) (hc.of_polled hp rfl) hg hr hw
    (by simp only [State.toPoll_now, State.toPoll_timer, State.toPoll_cfg, State.dueBy_now, State.dueBy_timer,
          State.dueBy_cfg]
        omega)

theorem counting_startTimerNow {s : State} (h : s.slack ≤ s.cfg.pollGap) (r : Res) : Counting (s.startTimerNow r) :=
  ⟨rfl, Nat.le_refl _, (polled_startTimerNow r s).paced h⟩

/-- On a quiet line no other driver is low, at any time from here on (R171). -/
theorem State.quiet.headD_drop {s : State} (h : s.quiet) (i : Nat) : (s.env.drop i).headD false = false := by
  cases hd : s.env.drop i with
  | nil => rfl
  | cons b rest => exact h b (List.mem_of_mem_drop (by rw [hd]; exact List.mem_cons_self))

/-- Engine events leave a quiet line quiet: with the driver released it reads high. -/
theorem Polled.line_of_quiet {s t : State} (h : Polled s t) (hq : s.quiet) (hd : t.drive = false) : t.line = false := by
  rw [State.line, State.envNow, h.env, hq.headD_drop, hd, Bool.or_self]

/-- What W7 gives a wait that starts with its timer: the elapsed ticks, unwrapped (R69, R152). -/
theorem pollUntil_startTimerNow (lvl : Bool) (T : Nat) (ing : Bool) (res : Res) {s : State} (hwf : s.cfg.wf = true)
    (hslack : s.slack ≤ s.cfg.pollGap) (hw : T * s.cfg.rTicks res + s.cfg.pollGap ≤ 256 * s.cfg.rTicks res) :
    (pollUntil lvl T ing (s.startTimerNow res)).2 =
        ((pollUntil lvl T ing (s.startTimerNow res)).1.now - s.now) / s.cfg.rTicks res ∧
      (pollUntil lvl T ing (s.startTimerNow res)).1.now - s.now < 256 * s.cfg.rTicks res := by
  have hr := Config.one_le_rTicks hwf res
  have h := pollUntil_unwrapped lvl T ing (s.startTimerNow res) (counting_startTimerNow hslack res)
    (Config.ratio_bounds hwf).2 hr hw (by simp [State.wrapDue])
  simp only [State.wrapDue, State.startTimerNow_timer, State.startTimerNow_cfg] at h
  exact ⟨h.1, by omega⟩

/-- On a quiet line a wait for an assertion runs to its limit, and its last poll reads the count it returns (R69). -/
theorem pollUntil_quiet (T : Nat) (ing : Bool) (res : Res) {s : State} (hwf : s.cfg.wf = true)
    (hdrive : s.drive = false) (hslack : s.slack ≤ s.cfg.pollGap) (hquiet : s.quiet)
    (hw : T * s.cfg.rTicks res + s.cfg.pollGap ≤ 256 * s.cfg.rTicks res) :
    T ≤ (pollUntil true T ing (s.startTimerNow res)).2 ∧
      (pollUntil true T ing (s.startTimerNow res)).2 = (pollUntil true T ing (s.startTimerNow res)).1.ticks ∧
      (pollUntil true T ing (s.startTimerNow res)).1.line = false := by
  obtain ⟨hcount, hwrap⟩ := pollUntil_startTimerNow true T ing res hwf hslack hw
  have hp := (polled_startTimerNow res s).trans (polled_pollUntil true T ing _)
  have hwatch := watched_pollUntil true T ing (s.startTimerNow res)
  have hreached := pollUntil_reached true T ing (s.startTimerNow res)
  generalize pollUntil true T ing (s.startTimerNow res) = w at *
  have hline := hp.line_of_quiet hquiet (hwatch.drive.trans hdrive)
  have htimer : w.1.timer = ⟨res, s.now, true⟩ := hwatch.timer
  refine ⟨Nat.le_of_not_lt fun h => ?_, ?_, hline⟩
  · exact Bool.noConfusion (hline.symm.trans (hreached h))
  · rw [State.ticks_of_lt] <;> simp only [htimer, hp.cfg]
    exacts [hcount, hwrap]

/-- Settles O57: the loops' own bounds, from a timer that W7 keeps from wrapping. -/
theorem waitTimesOut : Obligations.WaitTimesOut := by
  refine ⟨?_, ?_, ?_⟩
  · intro s ing res T hwf hdrive hslack hquiet hT h7
    have hr := Config.one_le_rTicks hwf res
    have hw := ticks_of_w7 hr hT h7
    obtain ⟨hlimit, hticks, hline⟩ := pollUntil_quiet T ing res hwf hdrive hslack hquiet hw
    have hlast := pollUntil_last_poll true T ing (s.startTimerNow res) (counting_startTimerNow hslack res)
      (Config.ratio_bounds hwf).2 hr hT hw rfl
    have hlater := (polled_pollUntil true T ing (s.startTimerNow res)).now_le
    generalize pollUntil true T ing (s.startTimerNow res) = w at *
    simp only [State.startTimerNow_timer, State.startTimerNow_cfg, State.startTimerNow_now] at hlast hlater
    exact ⟨w.1, w.2, rfl, hlimit, hticks, hline, by omega⟩
  · intro s lvl ing res T hwf hslack hT h7
    obtain ⟨hcount, hwrap⟩ := pollUntil_startTimerNow lvl T ing res hwf hslack
      (ticks_of_w7 (Config.one_le_rTicks hwf res) hT h7)
    generalize pollUntil lvl T ing (s.startTimerNow res) = w at *
    refine ⟨w.1, w.2, rfl, hcount, ?_⟩
    rw [hcount]
    exact Nat.le_of_lt_succ (Nat.div_lt_of_lt_mul (by rwa [Nat.mul_comm]))
  · intro s ing H t0 res hwf hslack htimer ht0 hH h7 hnow
    have hr := Config.one_le_rTicks hwf res
    have hwatch := watched_holdUntil H ing s
    have h := holdUntil_ends H ing s ⟨by rw [htimer], by rwa [htimer], hslack⟩ (Config.ratio_bounds hwf).2
      (by rwa [htimer]) (by rw [htimer]; exact ticks_of_w7 hr hH h7) (by simpa only [State.holdDue, htimer] using hnow)
    simp only [State.holdDue, htimer] at h
    obtain ⟨hticks, hlow, hhigh⟩ := h
    exact ⟨_, rfl, hticks, hlow, hhigh, hwatch.drive, hwatch.lineOut⟩

end Sys2Proof.Machine

/-!
SUPPORT. Time at the reference spacing (R68): `Took d s t` says that the engine events from `s` to `t` took `d` fine
ticks. A wait ends at the first tick at which the line has the level or the limit is reached, a hold at its last tick;
from these the waits on a given waveform.
-/

namespace Sys2Proof.Machine

/-! ## Engine events at the reference spacing -/

/-- `t` follows `s` by engine events at the reference spacing, which take `d` fine ticks in all (R68). -/
structure Took (d : Nat) (s t : State) : Prop where
  polled : Polled s t
  now : t.now = s.now + d
  gaps : t.gaps = []

theorem Took.trans {d e : Nat} {s t u : State} (h1 : Took d s t) (h2 : Took e t u) : Took (d + e) s u :=
  ⟨h1.polled.trans h2.polled, by rw [h2.now, h1.now, Nat.add_assoc], h2.gaps⟩

/-- Events that take no time before a run do not lengthen it. -/
theorem Took.zero_trans {d : Nat} {s t u : State} (h1 : Took 0 s t) (h2 : Took d t u) : Took d s u :=
  Nat.zero_add d ▸ h1.trans h2

theorem Took.env {d : Nat} {s t : State} (h : Took d s t) : t.env = s.env.drop d := by
  rw [h.polled.env, h.now, Nat.add_sub_cancel_left]

/-- The level `i` fine ticks from now, with CORE's driver as it is (R63). -/
theorem State.line_advance (i : Nat) (s : State) : (s.advance i).line = (s.drive || (s.env.drop i).headD false) := rfl

/-- The line after `d` ticks of engine events that leave the driver as it was. -/
theorem Took.line_advance {d : Nat} {s t : State} (h : Took d s t) (hd : t.drive = s.drive) (i : Nat) :
    (t.advance i).line = (s.advance (d + i)).line := by
  rw [State.line_advance, State.line_advance, h.env, hd, List.drop_drop]

theorem State.eventGap_of_gaps_nil {s : State} (h : s.gaps = []) : s.eventGap = 0 := by simp [State.eventGap, h]

theorem State.pollGapFrom_of_gaps_nil {s : State} (h : s.gaps = []) (ref : Nat) : s.pollGapFrom ref = ref := by
  simp [State.pollGapFrom, h]

@[simp] theorem State.waitPoll_gaps (ing : Bool) (s : State) : (s.waitPoll ing).gaps = s.gaps := by
  unfold State.waitPoll; split <;> rfl

theorem took_dueBy {s : State} (h : s.gaps = []) (t : Nat) : Took 0 s (s.dueBy t) := ⟨polled_dueBy t s, rfl, h⟩

theorem took_toPoll {s : State} (h : s.gaps = []) (ref : Nat) : Took ref s (s.toPoll ref) :=
  ⟨polled_toPoll ref s, by rw [State.toPoll_now, State.pollGapFrom_of_gaps_nil h], by simp [h]⟩

theorem took_waitPoll {s : State} (h : s.gaps = []) (ing : Bool) : Took 0 s (s.waitPoll ing) :=
  ⟨polled_waitPoll ing s, by simp, by simp [h]⟩

theorem took_timerStart {s : State} (h : s.gaps = []) (r : Res) : Took 0 s (s.timerStart r) :=
  ⟨polled_timerStart r s, by simp [State.eventGap_of_gaps_nil h], by simp [h]⟩

theorem took_driveLine {s : State} (h : s.gaps = []) (v : Bool) : Took 0 s (s.driveLine v) :=
  ⟨polled_driveLine v s, by simp [State.eventGap_of_gaps_nil h], by simp [h]⟩

theorem took_pollLine {s : State} (h : s.gaps = []) : Took 0 s s.pollLine.1 :=
  ⟨polled_pollLine s, (took_toPoll h 0).now, (took_toPoll h 0).gaps⟩

theorem State.pollLine_line {s : State} (h : s.gaps = []) : s.pollLine.2 = s.line :=
  (took_pollLine h).line_advance rfl 0

/-! ## Waits and holds at the reference spacing -/

/-- The loop of a wait ends `k` ticks on, where the line first takes the level or the count reaches `T` (R69). -/
theorem took_pollLoop (lvl : Bool) (T : Nat) (ing : Bool) (n : Nat) (s : State) (k : Nat) (hgaps : s.gaps = [])
    (hrun : s.timer.running = true) (h0 : s.timer.t0 ≤ s.now) (hr : 1 ≤ s.cfg.rTicks s.timer.res) (hT : T ≤ 255)
    (hbefore : ∀ i < k, (s.advance i).line ≠ lvl) (hk : s.now + k ≤ s.timer.t0 + T * s.cfg.rTicks s.timer.res)
    (hend : (s.advance k).line = lvl ∨ s.now + k = s.timer.t0 + T * s.cfg.rTicks s.timer.res) (hn : k < n) :
    Took k s (pollLoop lvl T ing n s).1 ∧
      (pollLoop lvl T ing n s).2 = (s.now + k - s.timer.t0) / s.cfg.rTicks s.timer.res := by
  induction n generalizing s k with
  | zero => omega
  | succ n ih =>
    have hp := took_waitPoll hgaps ing
    have hline : (s.waitPoll ing).line = (s.advance 0).line := hp.line_advance (watched_waitPoll ing s).drive 0
    have hnowrap : T * s.cfg.rTicks s.timer.res ≤ 255 * s.cfg.rTicks s.timer.res := Nat.mul_le_mul_right _ hT
    have hticks := s.waitPoll_ticks ing hrun (by omega)
    have hlimit : T ≤ (s.waitPoll ing).ticks ↔ T * s.cfg.rTicks s.timer.res ≤ s.now - s.timer.t0 := by
      rw [hticks, Nat.le_div_iff_mul_le hr]
    simp only [pollLoop, hline, hlimit]
    cases k with
    | zero =>
      split
      · exact ⟨hp, hticks⟩
      · next h =>
        rw [if_pos (by have := hend.resolve_left h; omega)]
        exact ⟨hp, hticks⟩
    | succ k =>
      rw [if_neg (hbefore 0 (by omega)), if_neg (by omega)]
      have hstep : Took 1 s ((s.waitPoll ing).toPoll 1) := hp.zero_trans (took_toPoll hp.gaps 1)
      have hwatch := (watched_waitPoll ing s).trans (watched_toPoll 1 _)
      generalize (s.waitPoll ing).toPoll 1 = u at *
      have hadv (i : Nat) : (u.advance i).line = (s.advance (i + 1)).line := by
        rw [hstep.line_advance hwatch.drive, Nat.add_comm]
      have hrest := ih u k hstep.gaps
      simp only [hwatch.timer, hstep.polled.cfg, hstep.now, hadv, Nat.add_right_comm s.now 1 k] at hrest
      obtain ⟨hloop, hcount⟩ := hrest hrun (by omega) hr (fun i hi => hbefore _ (by omega)) hk hend (by omega)
      exact ⟨Nat.add_comm 1 k ▸ hstep.trans hloop, hcount⟩

/-- At the reference spacing the first poll of a wait or hold takes no time, whatever bound it has. -/
theorem took_firstPoll {s : State} (h : s.gaps = []) (t : Nat) : Took 0 s ((s.dueBy t).toPoll 0) :=
  (took_dueBy h t).zero_trans (took_toPoll (took_dueBy h t).gaps 0)

theorem watched_firstPoll (t : Nat) (s : State) : Watched s ((s.dueBy t).toPoll 0) :=
  (watched_dueBy t s).trans (watched_toPoll 0 _)

/-- A wait on the running timer ends `k` ticks on, where the line first takes the level or the count reaches `T`
(R69). -/
theorem took_pollUntil (lvl : Bool) (T : Nat) (ing : Bool) (s : State) (k : Nat) (hgaps : s.gaps = [])
    (hrun : s.timer.running = true) (h0 : s.timer.t0 ≤ s.now) (hr : 1 ≤ s.cfg.rTicks s.timer.res) (hT : T ≤ 255)
    (hbefore : ∀ i < k, (s.advance i).line ≠ lvl) (hk : s.now + k ≤ s.timer.t0 + T * s.cfg.rTicks s.timer.res)
    (hend : (s.advance k).line = lvl ∨ s.now + k = s.timer.t0 + T * s.cfg.rTicks s.timer.res) :
    Took k s (pollUntil lvl T ing s).1 ∧
      (pollUntil lvl T ing s).2 = (s.now + k - s.timer.t0) / s.cfg.rTicks s.timer.res := by
  have hfirst := took_firstPoll hgaps (s.waitDue lvl)
  have hwatch := watched_firstPoll (s.waitDue lvl) s
  unfold pollUntil
  generalize (s.dueBy (s.waitDue lvl)).toPoll 0 = u at *
  have h := took_pollLoop lvl T ing (s.pollBound T) u k hfirst.gaps
  simp only [hfirst.line_advance hwatch.drive, hfirst.now, hfirst.polled.cfg, hwatch.timer, Nat.add_zero,
    Nat.zero_add] at h
  obtain ⟨hloop, hcount⟩ := h hrun h0 hr hT hbefore hk hend (by unfold State.pollBound; omega)
  exact ⟨hfirst.zero_trans hloop, hcount⟩

/-- A wait on the timer it starts ends `k` ticks on, where the line first takes the level or the limit is reached
(R70, R72). -/
theorem took_pollUntil_timerStart (lvl : Bool) (T : Nat) (ing : Bool) (r : Res) (s : State) (k : Nat)
    (hgaps : s.gaps = []) (hr : 1 ≤ s.cfg.rTicks r) (hT : T ≤ 255) (hbefore : ∀ i < k, (s.advance i).line ≠ lvl)
    (hk : k ≤ T * s.cfg.rTicks r) (hend : (s.advance k).line = lvl ∨ k = T * s.cfg.rTicks r) :
    Took k s (pollUntil lvl T ing (s.timerStart r)).1 ∧
      (pollUntil lvl T ing (s.timerStart r)).2 = k / s.cfg.rTicks r := by
  have hstart := took_timerStart hgaps r
  have htimer : (s.timerStart r).timer = ⟨r, s.now, true⟩ := by simp [State.eventGap_of_gaps_nil hgaps]
  have hdrive : (s.timerStart r).drive = s.drive := rfl
  generalize s.timerStart r = u at *
  have h := took_pollUntil lvl T ing u k hstart.gaps
  simp only [hstart.line_advance hdrive, hstart.now, hstart.polled.cfg, htimer, Nat.add_zero, Nat.zero_add,
    Nat.add_sub_cancel_left, Nat.add_le_add_iff_left, Nat.add_left_cancel_iff] at h
  obtain ⟨hwait, hcount⟩ := h trivial (Nat.le_refl _) hr hT hbefore hk hend
  exact ⟨hstart.zero_trans hwait, hcount⟩

/-- While CORE drives the line, a hold polls as a wait for the release does: the level is never met. -/
theorem holdLoop_of_driven (H : Nat) (ing : Bool) (n : Nat) (s : State) (h : s.drive = true) :
    holdLoop H ing n s = (pollLoop false H ing n s).1 := by
  induction n generalizing s with
  | zero => rfl
  | succ n ih =>
    have hdrive := (watched_waitPoll ing s).drive.trans h
    have hline : (s.waitPoll ing).line ≠ false := by simp [State.line, hdrive]
    simp only [holdLoop, pollLoop, if_neg hline]
    split
    · rfl
    · exact ih _ hdrive

/-- CORE's own assertion lasts to `t0 + H·r_ticks` exactly (R71). -/
theorem took_holdUntil (H : Nat) (ing : Bool) (s : State) (k : Nat) (hgaps : s.gaps = []) (hdrive : s.drive = true)
    (hrun : s.timer.running = true) (h0 : s.timer.t0 ≤ s.now) (hr : 1 ≤ s.cfg.rTicks s.timer.res) (hH : H ≤ 255)
    (hk : s.now + k = s.timer.t0 + H * s.cfg.rTicks s.timer.res) : Took k s (holdUntil H ing s) := by
  have hfirst := took_firstPoll hgaps (s.holdDue H)
  have hwatch := watched_firstPoll (s.holdDue H) s
  unfold holdUntil
  generalize (s.dueBy (s.holdDue H)).toPoll 0 = u at *
  have hdrive' := hwatch.drive.trans hdrive
  rw [holdLoop_of_driven _ _ _ _ hdrive']
  have h := took_pollLoop false H ing (s.pollBound H) u k hfirst.gaps
  simp only [hfirst.now, hfirst.polled.cfg, hwatch.timer, Nat.add_zero] at h
  obtain ⟨hloop, -⟩ := h hrun h0 hr hH (fun i _ => by simp [State.line_advance, hdrive']) hk.le (.inr hk)
    (by unfold State.pollBound; omega)
  exact hfirst.zero_trans hloop

/-! ## Waits on a waveform -/

section Wave

variable {s : State} {lvl : Bool} {d : Nat} {rest : List Bool} (T : Nat) (ing : Bool) (r : Res)
  (hgaps : s.gaps = []) (hdrive : s.drive = false) (henv : s.env = List.replicate d (!lvl) ++ rest)
  (hr : 1 ≤ s.cfg.rTicks r) (hT : T ≤ 255)

include hdrive henv in
/-- Through the first `d` ticks of the waveform the line is not at the level. -/
theorem State.line_advance_ne {i : Nat} (hi : i < d) : (s.advance i).line ≠ lvl := by
  have : List.drop i (List.replicate d (!lvl)) = (!lvl) :: List.replicate (d - i - 1) (!lvl) := by
    rw [List.drop_replicate, ← List.replicate_succ]
    congr 1
    omega
  rw [State.line_advance, henv, List.drop_append_of_le_length (by simpa using hi.le), this]
  cases lvl <;> simp [hdrive]

include hgaps hdrive henv hr hT

/-- A wait for the level that the line takes after `d` ticks, within the limit, measures `d` (R69, R165). -/
theorem took_wait_reached (hrest : rest.headD false = lvl) (hd : d ≤ T * s.cfg.rTicks r) :
    Took d s (pollUntil lvl T ing (s.timerStart r)).1 ∧
      (pollUntil lvl T ing (s.timerStart r)).2 = d / s.cfg.rTicks r := by
  refine took_pollUntil_timerStart lvl T ing r s d hgaps hr hT (fun i hi => State.line_advance_ne hdrive henv hi) hd
    (.inl ?_)
  rw [State.line_advance, henv, List.drop_left' (by simp), hdrive, hrest, Bool.false_or]

/-- A wait for a level that the line does not take within the limit ends at the limit (R69). -/
theorem took_wait_expired (hd : T * s.cfg.rTicks r ≤ d) :
    Took (T * s.cfg.rTicks r) s (pollUntil lvl T ing (s.timerStart r)).1 ∧
      (pollUntil lvl T ing (s.timerStart r)).2 = T := by
  have h := took_pollUntil_timerStart lvl T ing r s _ hgaps hr hT
    (fun i hi => State.line_advance_ne hdrive henv (Nat.lt_of_lt_of_le hi hd)) (Nat.le_refl _) (.inr rfl)
  rwa [Nat.mul_div_cancel T hr] at h

end Wave

/-- A wait for an assertion on a quiet line ends at the limit (R69, R171). -/
theorem took_wait_quiet (T : Nat) (ing : Bool) (r : Res) {s : State} (hgaps : s.gaps = []) (hdrive : s.drive = false)
    (hquiet : s.quiet) (hr : 1 ≤ s.cfg.rTicks r) (hT : T ≤ 255) :
    Took (T * s.cfg.rTicks r) s (pollUntil true T ing (s.timerStart r)).1 ∧
      (pollUntil true T ing (s.timerStart r)).2 = T := by
  have h := took_pollUntil_timerStart true T ing r s _ hgaps hr hT
    (fun i _ => by rw [State.line_advance, hdrive, hquiet.headD_drop]; decide) (Nat.le_refl _) (.inr rfl)
  rwa [Nat.mul_div_cancel T hr] at h

/-! ## The waits of the bit transport, in fine ticks -/

section FineWave

variable {s : State} {d : Nat} {rest : List Bool} {T : Nat} (hgaps : s.gaps = [])
  (hdrive : s.drive = false) (hT : T ≤ 255)

include hgaps hdrive hT

theorem took_waitFree_reached (henv : s.env = List.replicate d true ++ rest) (hrest : rest.headD false = false)
    (hd : d ≤ T) : Took d s (waitFree T .fine s).1 ∧ (waitFree T .fine s).2 = d := by
  simpa [waitFree, waitAssert] using took_wait_reached T true .fine hgaps hdrive henv (Nat.le_refl 1) hT hrest
    (by simpa using hd)

theorem took_waitFree_expired (henv : s.env = List.replicate d true ++ rest) (hd : T ≤ d) :
    Took T s (waitFree T .fine s).1 ∧ (waitFree T .fine s).2 = T := by
  simpa [waitFree, waitAssert] using took_wait_expired T true .fine hgaps hdrive henv (Nat.le_refl 1) hT
    (by simpa using hd)

theorem took_waitAssert_reached (henv : s.env = List.replicate d false ++ rest) (hrest : rest.headD false = true)
    (hd : d ≤ T) : Took d s (waitAssert T .fine s).1 ∧ (waitAssert T .fine s).2 = d := by
  simpa [waitFree, waitAssert] using took_wait_reached T true .fine hgaps hdrive henv (Nat.le_refl 1) hT hrest
    (by simpa using hd)

theorem took_waitAssert_expired (henv : s.env = List.replicate d false ++ rest) (hd : T ≤ d) :
    Took T s (waitAssert T .fine s).1 ∧ (waitAssert T .fine s).2 = T := by
  simpa [waitFree, waitAssert] using took_wait_expired T true .fine hgaps hdrive henv (Nat.le_refl 1) hT
    (by simpa using hd)

theorem took_waitAssert_quiet (hquiet : s.quiet) :
    Took T s (waitAssert T .fine s).1 ∧ (waitAssert T .fine s).2 = T := by
  simpa [waitFree, waitAssert] using took_wait_quiet T true .fine hgaps hdrive hquiet (Nat.le_refl 1) hT

end FineWave

end Sys2Proof.Machine

/-!
SUPPORT. The encoder at the reference spacing (R73): the low that CORE sends, and the wait for another driver after it.
-/

namespace Sys2Proof.Machine

/-! ## WriteBit at the reference spacing -/

/-- The durations of a sent bit fit the counter (W1). -/
theorem sentLow_le {c : Config} (h : c.wf = true) (b : Bool) : sentLow c.timing b ≤ 255 := by
  cases b with
  | false => exact (Config.field_bounds h (f := (.fine, c.timing.tBitLong)) (by simp [Timing.fields])).2
  | true => exact (Config.field_bounds h (f := (.fine, c.timing.tBitShort)) (by simp [Timing.fields])).2

/-- The high of a bit is as long as the low of the other bit (R49). -/
theorem sentHigh_eq_sentLow_not (t : Timing) (b : Bool) : sentHigh t b = sentLow t (!b) := by cases b <;> rfl

theorem sentHigh_le {c : Config} (h : c.wf = true) (b : Bool) : sentHigh c.timing b ≤ 255 := by
  rw [sentHigh_eq_sentLow_not]
  exact sentLow_le h _

/-- A bit cell takes the same time for both bits (R49). -/
theorem sentLow_add_sentHigh (t : Timing) (b : Bool) : sentLow t b + sentHigh t b = t.tBitShort + t.tBitLong := by
  cases b
  · exact Nat.add_comm ..
  · rfl

/-- WriteBit's low: CORE's fall at once, its release `lo` ticks later (R73). -/
theorem took_writeLow (lo : Nat) (s : State) (hgaps : s.gaps = []) (hdrive : s.drive = false) (hlo : lo ≤ 255) :
    Took lo s (writeLow lo s) ∧ (writeLow lo s).lineOut = (s.now + lo, false) :: (s.now, true) :: s.lineOut := by
  have hstart := took_timerStart hgaps .fine
  have hfall := hstart.zero_trans (took_driveLine hstart.gaps true)
  have htimer : ((s.timerStart .fine).driveLine true).timer = ⟨.fine, s.now, true⟩ := by
    simp [State.eventGap_of_gaps_nil hgaps]
  have hout : ((s.timerStart .fine).driveLine true).lineOut = (s.now, true) :: s.lineOut := by
    simp [State.eventGap_of_gaps_nil hgaps, State.eventGap_of_gaps_nil hstart.gaps, hdrive]
  have hlow : ((s.timerStart .fine).driveLine true).drive = true := rfl
  unfold writeLow
  generalize (s.timerStart .fine).driveLine true = u at *
  have hhold := took_holdUntil lo true u lo hfall.gaps hlow
  simp only [htimer, hfall.now, Config.rTicks_fine, Nat.add_zero, Nat.mul_one] at hhold
  replace hhold := hhold trivial (Nat.le_refl _) (Nat.le_refl 1) hlo trivial
  have hwatch := watched_holdUntil lo true u
  generalize holdUntil lo true u = w at *
  have hnow := (hfall.zero_trans hhold).now
  refine ⟨hfall.zero_trans (hhold.trans (took_driveLine hhold.gaps false)), ?_⟩
  simp [State.eventGap_of_gaps_nil hhold.gaps, hwatch.drive, hwatch.lineOut, hlow, hout, hnow]

theorem writeLow_drive (lo : Nat) (s : State) : (writeLow lo s).drive = false := rfl

/-- A line already low is met before CORE drives (R73). -/
theorem writeBit_of_low (b : Bool) {s : State} (hgaps : s.gaps = []) (hlow : s.envNow = true) :
    writeBit b s = (s.pollLine.1, .wbPre) := by
  have hline : s.pollLine.2 = true := by rw [State.pollLine_line hgaps, State.line, hlow, Bool.or_true]
  simp only [writeBit, hline, if_true]

/-- On a line that is high at the call, WriteBit sends its low blindly and decides by the wait after it (R73). -/
theorem writeBit_of_high (b : Bool) {s : State} (hwf : s.cfg.wf = true) (hgaps : s.gaps = [])
    (hdrive : s.drive = false) (hhigh : s.envNow = false) :
    ∃ u, Took (sentLow s.cfg.timing b) s u ∧ u.drive = false ∧
      u.lineOut = (s.now + sentLow s.cfg.timing b, false) :: (s.now, true) :: s.lineOut ∧
      writeBit b s =
        ((waitAssert (sentHigh s.cfg.timing b) .fine u).1,
          if (waitAssert (sentHigh s.cfg.timing b) .fine u).2 < sentHigh s.cfg.timing b then .wbHigh else .none) := by
  have hpoll := took_pollLine hgaps
  have hline : s.pollLine.2 = false := by rw [State.pollLine_line hgaps, State.line, hhigh, hdrive, Bool.or_false]
  have hout : s.pollLine.1.lineOut = s.lineOut := rfl
  obtain ⟨hlow, hedges⟩ := took_writeLow (sentLow s.cfg.timing b) s.pollLine.1 hpoll.gaps hdrive
    (sentLow_le hwf b)
  rw [hpoll.now, hout] at hedges
  refine ⟨_, hpoll.zero_trans hlow, writeLow_drive _ _, hedges, ?_⟩
  simp only [writeBit, hline, Bool.false_eq_true, if_false]
  split <;> rfl

/-- Settles O58: after the low, the wait for another driver runs to its limit on a quiet line. -/
theorem writeBitOnQuietLine : Obligations.WriteBitOnQuietLine := by
  intro s b hwf hdrive hgaps hquiet
  obtain ⟨u, hlow, hreleased, hedges, hwrite⟩ := writeBit_of_high b hwf hgaps hdrive (hquiet.headD_drop 0)
  have hquiet' : u.quiet := fun x hx => hquiet x (List.mem_of_mem_drop (hlow.env ▸ hx))
  obtain ⟨hwait, hcount⟩ := took_waitAssert_quiet hlow.gaps hreleased (sentHigh_le hwf b) hquiet'
  obtain ⟨hdrive', hout⟩ := waitAssert_drive (sentHigh s.cfg.timing b) .fine u
  refine ⟨_, ?_, hdrive'.trans hreleased, hout.trans hedges, ?_⟩
  · rw [hwrite, hcount, if_neg (Nat.lt_irrefl _)]
  · rw [(hlow.trans hwait).now, sentLow_add_sentHigh]

/-- Settles O59: the first poll sees a line already low; after CORE's own low, the wait ends at the first low. -/
theorem writeBitCollisions : Obligations.WriteBitCollisions := by
  intro s b hwf hdrive hgaps
  refine ⟨fun hlow => ⟨_, writeBit_of_low b hgaps hlow, hdrive, rfl⟩, ?_⟩
  intro during rest j henv hduring hj
  obtain ⟨u, hlow, hreleased, hedges, hwrite⟩ := writeBit_of_high b hwf hgaps hdrive (by simp [State.envNow, henv])
  change during.length + 1 = sentLow s.cfg.timing b at hduring
  change j < sentHigh s.cfg.timing b at hj
  rw [← hduring] at hlow hedges
  have henv' : u.env = List.replicate j false ++ true :: rest := by
    rw [hlow.env, henv]
    simp
  obtain ⟨hwait, hcount⟩ := took_waitAssert_reached hlow.gaps hreleased (sentHigh_le hwf b) henv' rfl hj.le
  obtain ⟨hdrive', hout⟩ := waitAssert_drive (sentHigh s.cfg.timing b) .fine u
  refine ⟨_, ?_, hdrive'.trans hreleased, ?_, hout.trans hedges⟩
  · rw [hwrite, hcount, if_pos hj]
  · rw [(hlow.trans hwait).now, ← Nat.add_assoc, ← Nat.add_assoc]

end Sys2Proof.Machine

/-!
SUPPORT. The decoder at the reference spacing (R75): what `readBits` does with a cell, one lemma for each bound of the
envelope and one for a legal cell, then with a sequence of legal cells; and COMMAND, which reads one byte (R81).
-/

namespace Sys2Proof.Machine

/-! ## Cells -/

@[simp] theorem length_cellWave (c : Nat × Nat) : (cellWave c).length = c.1 + c.2 := by simp [cellWave]

@[simp] theorem cellsWave_nil : cellsWave [] = [] := rfl

@[simp] theorem cellsWave_cons (c : Nat × Nat) (cs : List (Nat × Nat)) :
    cellsWave (c :: cs) = cellWave c ++ cellsWave cs :=
  List.flatMap_cons

theorem cellsCarry_nil_iff (t : Timing) (bs : List Bool) : cellsCarry t [] bs = true ↔ bs = [] := by
  cases bs <;> simp [cellsCarry]

theorem cellsCarry_cons_iff (t : Timing) (c : Nat × Nat) (cs : List (Nat × Nat)) (bs : List Bool) :
    cellsCarry t (c :: cs) bs = true ↔
      ∃ b bs', bs = b :: bs' ∧ cellCarries t c b = true ∧ cellsCarry t cs bs' = true := by
  cases bs with
  | nil => simp [cellsCarry]
  | cons b bs => simp [cellsCarry]; tauto

theorem length_of_cellsCarry {t : Timing} {cs : List (Nat × Nat)} {bs : List Bool} (h : cellsCarry t cs bs = true) :
    cs.length = bs.length := by
  simp only [cellsCarry, Bool.and_eq_true, decide_eq_true_eq] at h
  exact h.1

theorem cellCarries_iff (t : Timing) (c : Nat × Nat) (b : Bool) :
    cellCarries t c b = true ↔
      (t.tBitLowMin ≤ c.1 ∧ c.1 < t.tBitLowMax) ∧ decide (c.1 < t.tBitSplit) = b ∧ 1 ≤ c.2 ∧ c.2 < t.tBitHighMax := by
  simp [cellCarries, and_assoc]

/-- Legal cells begin with a fall, so what follows a cell begins low if what follows them all does (R49). -/
theorem headD_cellsWave_append {t : Timing} (ht : 1 ≤ t.tBitLowMin) {cs : List (Nat × Nat)} {bs : List Bool}
    (h : cellsCarry t cs bs = true) {tail : List Bool} (htail : tail.headD false = true) :
    (cellsWave cs ++ tail).headD false = true := by
  cases cs with
  | nil => exact htail
  | cons c cs =>
    obtain ⟨b, bs, -, hc, -⟩ := (cellsCarry_cons_iff ..).mp h
    obtain ⟨⟨hlow, -⟩, -⟩ := (cellCarries_iff ..).mp hc
    obtain ⟨m, hm⟩ := Nat.exists_eq_add_of_le' (ht.trans hlow)
    simp [cellWave, hm, List.replicate_succ]

/-! ## The bits of a byte -/

/-- `v` after the bits `bs`, of which the last has the number `n` (R75). -/
def bitsInto (n : Nat) : List Bool → Byte → Byte
  | [], v => v
  | b :: bs, v => bitsInto n bs (setBitIf b (n + bs.length) v)

theorem getLsbD_setBitIf (b : Bool) (n : Nat) (v : Byte) {i : Nat} (hi : i < 8) :
    (setBitIf b n v).getLsbD i = (v.getLsbD i || b && decide (i = n)) := by
  cases b with
  | false => simp [setBitIf]
  | true =>
    have hone : (1#8 <<< n).getLsbD i = decide (i = n) := by
      rw [Bool.eq_iff_iff]
      simp [hi]
      omega
    simp only [setBitIf, if_true, BitVec.getLsbD_or, hone, Bool.true_and]

/-- One more bit read of a byte whose bits from `n + 1` on have been read (R75). -/
theorem setBitIf_getLsbD (v : Byte) (n : Nat) :
    setBitIf (v.getLsbD n) n (v >>> (n + 1) <<< (n + 1)) = v >>> n <<< n := by
  refine BitVec.eq_of_getLsbD_eq fun i hi => ?_
  rw [getLsbD_setBitIf _ _ _ hi]
  rcases Nat.lt_trichotomy i n with h | rfl | h
  · simp [h, h.ne, Nat.lt_succ_of_lt h]
  · simp [hi]
  · have hsub : n + 1 + (i - (n + 1)) = n + (i - n) := by omega
    simp [hi, h.ne', h.le, Nat.not_lt.mpr h, hsub]

/-- A byte's bits in the order of the line, put one by one where `ReadByte` puts them, give the byte (R36, R75). -/
theorem bitsInto_bitsMsb (v : Byte) : bitsInto 0 (bitsMsb v) 0x00#8 = v := by
  have h0 : 0x00#8 = v >>> 8 <<< 8 := by simp
  rw [h0]
  simp only [bitsMsb, bitsInto, List.length_cons, List.length_nil, Nat.zero_add, setBitIf_getLsbD]
  simp

/-! ## ReadByte, cell by cell (R75) -/

section Cell

variable {s : State} {lo : Nat} {rest : List Bool} (hwf : s.cfg.wf = true) (hgaps : s.gaps = [])
  (hdrive : s.drive = false) (henv : s.env = List.replicate lo true ++ rest)

include hwf hgaps hdrive henv

/-- A low that reaches the ceiling. -/
theorem readBits_low_long (hlo : s.cfg.timing.tBitLowMax ≤ lo) (n : Nat) (v : Byte) :
    ∃ t, Took s.cfg.timing.tBitLowMax s t ∧ readBits (n + 1) v s = (t, v, .rbLowLong) := by
  obtain ⟨hwait, hcount⟩ := took_waitFree_expired hgaps hdrive (Config.tBitLowMax_le hwf) henv hlo
  exact ⟨_, hwait, by simp only [readBits, hcount, Nat.le_refl, if_true]⟩

variable (hfree : rest.headD false = false)

include hfree

/-- A low below the floor. -/
theorem readBits_low_short (hlo : lo < s.cfg.timing.tBitLowMin) (n : Nat) (v : Byte) :
    ∃ t, Took lo s t ∧ readBits (n + 1) v s = (t, v, .rbLowShort) := by
  obtain ⟨hmin, hmax⟩ := Config.split_bounds hwf
  obtain ⟨hwait, hcount⟩ := took_waitFree_reached hgaps hdrive (Config.tBitLowMax_le hwf) henv hfree (by omega)
  refine ⟨_, hwait, ?_⟩
  simp only [readBits, hcount]
  rw [if_neg (by omega), if_pos hlo]

/-- After a legal low the bit is decided, and the wait for the next fall follows. -/
theorem readBits_low_legal (hlo : s.cfg.timing.tBitLowMin ≤ lo ∧ lo < s.cfg.timing.tBitLowMax) (n : Nat) (v : Byte) :
    ∃ u, Took lo s u ∧ u.drive = false ∧ u.env = rest ∧
      readBits (n + 1) v s =
        (let v1 := setBitIf (decide (lo < s.cfg.timing.tBitSplit)) n v
         let hi := waitAssert s.cfg.timing.tBitHighMax .fine u
         if s.cfg.timing.tBitHighMax ≤ hi.2 then (hi.1, v1, .rbHighLong) else readBits n v1 hi.1) := by
  obtain ⟨hwait, hcount⟩ := took_waitFree_reached hgaps hdrive (Config.tBitLowMax_le hwf) henv hfree hlo.2.le
  refine ⟨_, hwait, (waitFree_drive _ _ s).1.trans hdrive, by rw [hwait.env, henv, List.drop_left' (by simp)], ?_⟩
  simp only [readBits, hcount]
  rw [if_neg (by omega), if_neg (by omega)]

/-- After a legal low, a high that reaches the ceiling. -/
theorem readBits_high_long (hlo : s.cfg.timing.tBitLowMin ≤ lo ∧ lo < s.cfg.timing.tBitLowMax) {hi : Nat}
    {rest' : List Bool} (hrest : rest = List.replicate hi false ++ rest') (hhi : s.cfg.timing.tBitHighMax ≤ hi)
    (n : Nat) (v : Byte) :
    ∃ t w, Took (lo + s.cfg.timing.tBitHighMax) s t ∧ readBits (n + 1) v s = (t, w, .rbHighLong) := by
  obtain ⟨u, hlow, hreleased, henv', hread⟩ := readBits_low_legal hwf hgaps hdrive henv hfree hlo n v
  obtain ⟨hwait, hcount⟩ := took_waitAssert_expired hlow.gaps hreleased (Config.tBitHighMax_le hwf)
    (henv'.trans hrest) hhi
  exact ⟨_, setBitIf (decide (lo < s.cfg.timing.tBitSplit)) n v, hlow.trans hwait,
    by simp only [hread, hcount, Nat.le_refl, if_true]⟩

end Cell

/-- A legal cell is read as its bit, up to the fall that ends it. -/
theorem readBits_cell {s : State} {c : Nat × Nat} {b : Bool} {rest : List Bool} (hwf : s.cfg.wf = true)
    (hgaps : s.gaps = []) (hdrive : s.drive = false) (hc : cellCarries s.cfg.timing c b = true)
    (henv : s.env = cellWave c ++ rest) (hfall : rest.headD false = true) (n : Nat) (v : Byte) :
    ∃ u, Took (c.1 + c.2) s u ∧ u.drive = false ∧ u.env = rest ∧
      readBits (n + 1) v s = readBits n (setBitIf b n v) u := by
  obtain ⟨hlo, rfl, hone, hhi⟩ := (cellCarries_iff ..).mp hc
  obtain ⟨m, hm⟩ := Nat.exists_eq_add_of_le' hone
  rw [cellWave, List.append_assoc] at henv
  obtain ⟨u, hlow, hreleased, henv', hread⟩ := readBits_low_legal hwf hgaps hdrive henv
    (by simp [hm, List.replicate_succ]) hlo n v
  obtain ⟨hwait, hcount⟩ := took_waitAssert_reached hlow.gaps hreleased (Config.tBitHighMax_le hwf) henv' hfall hhi.le
  refine ⟨_, hlow.trans hwait, (waitAssert_drive _ _ u).1.trans hreleased,
    by rw [hwait.env, henv', List.drop_left' (by simp)], ?_⟩
  simp only [hread, hcount]
  rw [if_neg (by omega)]

/-- Legal cells are read one by one, up to what follows the last: after at least one cell, a fall. -/
theorem readBits_cells {cells : List (Nat × Nat)} {bits : List Bool} {s : State} {tail : List Bool}
    (hwf : s.cfg.wf = true) (hgaps : s.gaps = []) (hdrive : s.drive = false)
    (hcarry : cellsCarry s.cfg.timing cells bits = true) (henv : s.env = cellsWave cells ++ tail)
    (hfall : cells = [] ∨ tail.headD false = true) (n : Nat) (v : Byte) :
    ∃ u, Took (cellsWave cells).length s u ∧ u.drive = false ∧ u.env = tail ∧
      readBits (n + cells.length) v s = readBits n (bitsInto n bits v) u := by
  induction cells generalizing bits s v with
  | nil =>
    rw [cellsCarry_nil_iff] at hcarry
    exact ⟨s, ⟨.refl s, rfl, hgaps⟩, hdrive, henv, by rw [hcarry]; rfl⟩
  | cons c cs ih =>
    have hfall := hfall.resolve_left (List.cons_ne_nil c cs)
    obtain ⟨b, bs, rfl, hc, hcs⟩ := (cellsCarry_cons_iff ..).mp hcarry
    rw [cellsWave_cons, List.append_assoc] at henv
    obtain ⟨u, hcell, hreleased, henv', hread⟩ := readBits_cell hwf hgaps hdrive hc henv
      (headD_cellsWave_append (Config.one_le_tBitLowMin hwf) hcs hfall) (n + cs.length) v
    obtain ⟨w, hrest, hreleased', henv'', hread'⟩ := ih (hcell.polled.cfg ▸ hwf) hcell.gaps hreleased
      (hcell.polled.cfg ▸ hcs) henv' (.inr hfall) (setBitIf b (n + cs.length) v)
    refine ⟨w, ?_, hreleased', henv'', ?_⟩
    · rw [cellsWave_cons, List.length_append, length_cellWave]
      exact hcell.trans hrest
    · rw [List.length_cons, ← Nat.add_assoc, hread, hread', bitsInto, length_of_cellsCarry hcs]

/-! ## COMMAND -/

theorem readByte_lineOut (s : State) : (readByte s).1.lineOut = s.lineOut := (readBits_drive 8 _ s).2

/-- At COMMAND a step reads the command byte (R76, R81). -/
theorem step_command {s : State} (hwf : s.cfg.wf = true) (hdue : noPowerOnDue s) (hs : s.state = .command) :
    step s = .next (readCommand s) := by
  have hpower : ¬(s.resetEntry = true ∧ s.begun = false) := by
    rcases hdue with h | h <;> simp [h]
  simp [step, hwf, hpower, hs]

/-- COMMAND with a byte read: `cmd` is all it writes of the transaction (R81). -/
theorem readCommand_of_read {s t : State} {v : Byte} (h : readByte s = (t, v, .none)) :
    readCommand s = (t.setCmd v).goto .srq := by
  simp only [readCommand, h, if_true]

/-- COMMAND with a bit error: the abort, at the tick where the byte broke off (R81, R143). -/
theorem readCommand_of_error {s t : State} {w : Byte} {e : Err} (h : readByte s = (t, w, e)) (he : e ≠ .none) :
    readCommand s = t.raiseErr e := by
  simp only [readCommand, h, if_neg he]

/-- Settles O15: the eight cells are read one by one, and their bits are the byte's. -/
theorem commandReadsByteFromCells : Obligations.CommandReadsByteFromCells := by
  intro s v cells rest hwf hdue hs hdrive hgaps hcarry henv
  obtain ⟨u, htook, hreleased, henv', hread⟩ := readBits_cells hwf hgaps hdrive hcarry henv (.inr rfl) 0 0x00#8
  have hbyte : readByte s = (u, v, .none) := by
    have hlen : cells.length = 8 := length_of_cellsCarry hcarry
    rwa [bitsInto_bitsMsb, hlen] at hread
  have hout : u.lineOut = s.lineOut := by simpa [hbyte] using readByte_lineOut s
  have hp := htook.polled
  refine ⟨_, step_command hwf hdue hs, ?_⟩
  rw [readCommand_of_read hbyte]
  refine ⟨rfl, ?_, henv', htook.now, hp.outcome, hp.ids, hp.ops, hout⟩
  simp [hp.tx]

/-- What an abort of COMMAND leaves, `d` ticks after COMMAND began (R81, R143). -/
theorem readCommand_aborted {s t : State} {w : Byte} {e : Err} {d n : Nat} (hdrive : s.drive = false)
    (h : readByte s = (t, w, e)) (he : e ≠ .none) (ht : Took d s t)
    (hn : s.now + d = n) :
    (readCommand s).tx.cmd = s.tx.cmd ∧ (readCommand s).lineOut = s.lineOut ∧ Aborted e (readCommand s) ∧
      (readCommand s).now = n := by
  have hd : t.drive = false := by simpa [h, hdrive] using readByte_drive s
  have hout : t.lineOut = s.lineOut := by simpa [h] using readByte_lineOut s
  rw [readCommand_of_error h he]
  exact ⟨by simp [ht.polled.tx], by simp [hd, hout], ⟨rfl, rfl, rfl, rfl⟩, ht.now.trans hn⟩

/-- Settles O16: after the legal cells, each bound of the envelope breaks the byte off with its own error. -/
theorem commandBitErrors : Obligations.CommandBitErrors := by
  intro s cells bits lo hi rest hwf hdue hs hdrive hgaps hcarry hlen hfirst hhi henv hlegal
  have hfall : cells = [] ∨ (List.replicate lo true ++ (List.replicate hi false ++ rest)).headD false = true :=
    hfirst.imp_right fun h => by
      obtain ⟨m, rfl⟩ := Nat.exists_eq_add_of_le' h
      rfl
  have hfree : (List.replicate hi false ++ rest).headD false = false := by
    obtain ⟨m, rfl⟩ := Nat.exists_eq_add_of_le' hhi
    rfl
  rw [List.append_assoc, List.append_assoc] at henv
  obtain ⟨m, hm⟩ := Nat.exists_eq_add_of_le hlen
  obtain ⟨u, htook, hreleased, henv', hread⟩ := readBits_cells hwf hgaps hdrive hcarry henv hfall (m + 1) 0x00#8
  have hbyte : readByte s = readBits (m + 1) (bitsInto (m + 1) bits 0x00#8) u := by
    rw [← hread, readByte]
    congr 1
    omega
  have hcfg := htook.polled.cfg
  have hwf' : u.cfg.wf = true := hcfg ▸ hwf
  refine ⟨_, step_command hwf hdue hs, (readCommand_devices s).1, (readCommand_devices s).2, ?_⟩
  rw [← hcfg] at hlegal ⊢
  split
  · next hlong =>
    obtain ⟨t, ht, herr⟩ := readBits_low_long hwf' htook.gaps hreleased henv' hlong m (bitsInto (m + 1) bits 0x00#8)
    exact readCommand_aborted hdrive (hbyte.trans herr) (by decide) (htook.trans ht) (by omega)
  · next hnotlong =>
    split
    · next hshort =>
      obtain ⟨t, ht, herr⟩ := readBits_low_short hwf' htook.gaps hreleased henv' hfree hshort m
        (bitsInto (m + 1) bits 0x00#8)
      exact readCommand_aborted hdrive (hbyte.trans herr) (by decide) (htook.trans ht) (by omega)
    · next hnotshort =>
      have hlo := And.intro (Nat.le_of_not_lt hnotshort) (Nat.lt_of_not_le hnotlong)
      obtain ⟨t, w, ht, herr⟩ := readBits_high_long hwf' htook.gaps hreleased henv' hfree hlo rfl
        (hlegal hlo.1 hlo.2) m (bitsInto (m + 1) bits 0x00#8)
      exact readCommand_aborted hdrive (hbyte.trans herr) (by decide) (htook.trans ht) (by omega)

end Sys2Proof.Machine

/-!
SUPPORT. One step in each of the engine's states, said once (R76, R158): with no power-on due, a step of a well-formed
machine is the phase of its state.
-/

namespace Sys2Proof.Machine

/-! ## The step by the engine's state -/

theorem not_noPowerOnDue_iff (s : State) : ¬noPowerOnDue s ↔ s.resetEntry = true ∧ s.begun = false := by
  simp [noPowerOnDue]

/-- A request on RESET_ENTRY before the first transaction is taken (R158). -/
theorem step_powerOn {s : State} (hwf : s.cfg.wf = true) (hdue : ¬noPowerOnDue s) : step s = .next s.powerOn := by
  simp [step, hwf, (not_noPowerOnDue_iff s).mp hdue]

section

variable {s : State} (hwf : s.cfg.wf = true) (hdue : noPowerOnDue s)

include hwf hdue

theorem step_idle (hs : s.state = .idle) : step s = .next (idlePoll s) := by
  simp [step, hwf, ← not_noPowerOnDue_iff, hdue, hs]

theorem step_classify (hs : s.state = .classify) : step s = .next (classify s) := by
  simp [step, hwf, ← not_noPowerOnDue_iff, hdue, hs]

theorem step_sync (hs : s.state = .sync) : step s = .next (syncWindow s) := by
  simp [step, hwf, ← not_noPowerOnDue_iff, hdue, hs]

theorem step_srq (hs : s.state = .srq) : step s = .next (srqPhase s) := by
  simp [step, hwf, ← not_noPowerOnDue_iff, hdue, hs]

theorem step_dispatch (hs : s.state = .dispatch) : step s = exec s.fetched s := by
  simp [step, hwf, ← not_noPowerOnDue_iff, hdue, hs]

end

/-- Settles O9: every state of the engine but TALK and LISTEN, where the invariant rules the engine out, has a move. -/
theorem stepGoesOnFromInv : Obligations.StepGoesOnFromInv := by
  intro s h
  by_cases hdue : noPowerOnDue s
  · cases hs : s.state with
    | idle => exact ⟨_, step_idle h.config hdue hs⟩
    | classify => exact ⟨_, step_classify h.config hdue hs⟩
    | sync => exact ⟨_, step_sync h.config hdue hs⟩
    | command => exact ⟨_, step_command h.config hdue hs⟩
    | srq => exact ⟨_, step_srq h.config hdue hs⟩
    | dispatch =>
      obtain ⟨t, ht, -⟩ := exec_executed s.fetched s
      exact ⟨t, (step_dispatch h.config hdue hs).trans ht⟩
    | talk => exact absurd hs h.notTalk
    | listen => exact absurd hs h.notListen
  · exact ⟨_, step_powerOn h.config hdue⟩

/-- Settles O4: the byte in `cmd` decodes to the fetched command. -/
theorem stepRunsFetchedCommand : Obligations.StepRunsFetchedCommand := by
  intro s i hwf hdue hs hdecode _
  have hfetched : s.fetched = i := by simpa [State.fetched, decode] using hdecode
  rw [step_dispatch hwf hdue hs, hfetched]

end Sys2Proof.Machine

/-!
SUPPORT. DISPATCH: which class a command's address selects (R82), and how its transaction ends (R77, R85, R87, R143).
-/

namespace Sys2Proof.Machine

/-! ## The address match -/

/-- A search in the fixed class order stops at the first class with the property (R7). -/
theorem find?_all_eq_some_iff (p : DevClass → Bool) (k : DevClass) :
    DevClass.all.find? p = some k ↔
      p k = true ∧ ∀ j, (j = .kbd ∧ k ≠ .kbd) ∨ (j = .mouse ∧ k = .arb) → ¬p j = true := by
  simp only [DevClass.all, List.find?_cons_eq_some, List.find?_nil]
  cases k with
  | kbd => simp
  | mouse => simp [and_comm]
  | arb => simp [or_imp, forall_and, and_comm, and_left_comm]

/-- Settles O18: the search in the fixed order stops at the first class that answers, and by the invariant no present class
has address 0. -/
theorem firstMatchAnswers : Obligations.FirstMatchAnswers := by
  constructor
  · intro s a k
    rw [State.matchClass, find?_all_eq_some_iff]
    simp only [Bool.and_eq_true, beq_iff_eq]
  · intro s h
    have hnone : s.matchClass 0#4 = none := Option.eq_none_iff_forall_ne_some.mpr fun k hk => by
      obtain ⟨hpresent, haddr⟩ := State.matchClass_sound hk
      exact h.addr k hpresent haddr
    rw [State.matchMask, hnone]

/-! ## The end of a command's transaction -/

/-- `end` with the line released already (R77). -/
theorem State.endTx_of_released {s : State} (h : s.drive = false) (o : TxOutcome) :
    s.endTx o = { s with outcome := o, state := .idle } := by
  simp [State.endTx, State.setDrive, h]

/-- Settles O22: with no class at its address, no other move than the end is DISPATCH's. -/
theorem unaddressedCommandEnds : Obligations.UnaddressedCommandEnds := by
  intro i s hdrive hnone
  obtain ⟨t, hexec, hx⟩ := exec_executed i s
  rw [hexec]
  cases hx with
  | notAddressed => exact congrArg _ (State.endTx_of_released (s := s.setTarget ClassMask.zero) hdrive _)
  | talk _ _ hk | listen _ _ hk | flush _ hk | reserved _ _ hk => simp [hnone] at hk

/-- What DISPATCH leaves of every transaction: IDLE, the line released, and one of a command's outcomes, with the error
record in `err` where it is an error (R77, R143, R144). -/
structure CommandEnded (t : State) : Prop where
  idle : t.state = .idle
  released : t.drive = false
  outcome : t.outcome ∉ [TxOutcome.none, .reset, .spurious]
  recorded : ∀ e, t.outcome = .error e → t.tx.err = e

theorem commandEnded_raiseErr (e : Err) (s : State) : CommandEnded (s.raiseErr e) :=
  ⟨rfl, rfl, by simp, fun e' h => by simpa using h⟩

theorem commandEnded_endTx {o : TxOutcome} (s : State) (h : o ∉ [TxOutcome.none, .reset, .spurious])
    (he : ∀ e, o ≠ .error e) : CommandEnded (s.endTx o) :=
  ⟨rfl, rfl, h, fun e h => absurd h (he e)⟩

theorem commandEnded_of_executed {i : Instr} {s t : State} (h : Executed i s t) : CommandEnded t := by
  cases h with
  | notAddressed => exact commandEnded_endTx _ (by decide) nofun
  | talk k r =>
    obtain ⟨u, -, hu | ⟨e, -, hu⟩ | hu⟩ :=
      talkPhase_cases k (((s.setTarget (ClassMask.onehot k)).setReg r).goto .talk) <;> rw [hu]
    · exact commandEnded_endTx _ (by decide) nofun
    · exact commandEnded_raiseErr e _
    · exact commandEnded_endTx _ (by decide) nofun
  | listen k r =>
    obtain ⟨buf, len, u, -, -, ⟨e, hu⟩ | hu⟩ :=
      listenPhase_cases k (((s.setTarget (ClassMask.onehot k)).setReg r).goto .listen) <;> rw [hu]
    · exact commandEnded_raiseErr e _
    · exact commandEnded_endTx _ (by decide) nofun
  | flush => exact commandEnded_endTx _ (by decide) nofun
  | reserved => exact commandEnded_endTx _ (by decide) nofun

/-- Settles O44: every command answers a next state, in which its transaction has ended. -/
theorem commandEndsReleased : Obligations.CommandEndsReleased := by
  intro i s
  obtain ⟨t, hexec, hx⟩ := exec_executed i s
  obtain ⟨hidle, hreleased, houtcome, hrecorded⟩ := commandEnded_of_executed hx
  simp only [List.mem_cons, List.not_mem_nil, or_false, not_or] at houtcome
  obtain ⟨hnone, hreset, hspurious⟩ := houtcome
  exact ⟨t, hexec, hidle, hreleased, cfg_of_executed hx, hnone, hreset, hspurious, hrecorded⟩

/-! ## A Talk that fails -/

theorem exec_talkOf (a : BusAddr) (r : RegNum) (s : State) : exec (talkOf a r) s = .next (s.talk a r) := by
  obtain rfl | rfl | rfl | rfl := twoBitField_cases r <;> rfl

/-- Of the register file production writes the reported deltas of a mouse with something to report, and nothing else
(R102, R108). -/
theorem State.produce_regs (k : DevClass) (r : RegNum) (s : State) :
    (s.produce k r).regs =
      if k = .mouse ∧ r = 0b00#2 ∧ s.regs.mouse.pending = true then
        { s.regs with mouse := s.regs.mouse.report s.cfg }
      else s.regs := by
  obtain rfl | rfl | rfl | rfl := twoBitField_cases r
  · rw [State.produce_r0]
    cases k with
    | kbd => simp only [State.produceR0, State.produceKbdR0]; split <;> rfl
    | mouse =>
      show s.produceMouseR0.regs = _
      by_cases h : s.regs.mouse.pending = true
      · rw [if_pos ⟨rfl, rfl, h⟩, State.produceMouseR0, if_pos h]
      · rw [if_neg fun ⟨_, _, hp⟩ => h hp, State.produceMouseR0, if_neg h]; rfl
    | arb => simp only [State.produceR0, State.produceArbR0]; split <;> rfl
  · rw [if_neg (by simp)]; rfl
  · rw [if_neg (by simp)]
    cases k with
    | kbd => rfl
    | mouse => rfl
    | arb =>
      show s.produceArbR2.regs = s.regs
      unfold State.produceArbR2
      split <;> rfl
  · rw [if_neg (by simp)]; rfl

theorem ProducedFrom.ingestIn {s t : State} (h : ProducedFrom s t) : t.ingestIn = s.ingestIn := by rw [h]

theorem ProducedFrom.reg {s t : State} (h : ProducedFrom s t) : t.tx.reg = s.tx.reg := by rw [h]

theorem State.recordCollision_ids (k : DevClass) (s : State) :
    (s.recordCollision k).ids =
      if s.tx.reg = 0b11#2 then s.ids.set k { s.ids.get k with collision := true } else s.ids := by
  unfold State.recordCollision; split <;> rfl

@[simp] theorem State.recordCollision_regs (k : DevClass) (s : State) : (s.recordCollision k).regs = s.regs := by
  unfold State.recordCollision; split <;> rfl

@[simp] theorem State.recordCollision_ingestIn (k : DevClass) (s : State) :
    (s.recordCollision k).ingestIn = s.ingestIn := by
  unfold State.recordCollision; split <;> rfl

/-- Settles O37: of the Talk phase's three ends only the collision is an error, and before it there are production and
engine events alone. -/
theorem failedTalkDrainsNothing : Obligations.FailedTalkDrainsNothing := by
  intro s t a k r e hk hexec houtcome
  rw [exec_talkOf, State.talk, State.command_some _ hk] at hexec
  injection hexec with ht
  generalize hp : ((s.setTarget (ClassMask.onehot k)).setReg r).goto .talk = p at ht
  have hreg : p.tx.reg = r := by rw [← hp]; rfl
  have hids : p.ids = s.ids := by rw [← hp]; rfl
  have hregs : (p.produce k r).regs = (s.produce k r).regs := by
    rw [State.produce_regs, State.produce_regs, ← hp]; rfl
  have hframe := p.produce_frame k r
  have hops : (p.produce k r).ingestIn = s.ingestIn := by rw [hframe.ingestIn, ← hp]; rfl
  have hcfg : p.cfg = s.cfg := by rw [← hp]; rfl
  obtain ⟨u, hpoll, hu | ⟨e', hcls, hu⟩ | hu⟩ := talkPhase_cases k p <;>
    (rw [hu] at ht; subst ht; cases houtcome)
  rw [hreg] at hpoll
  have hreg' : u.tx.reg = r := by rw [hpoll.tx, hframe.reg, hreg]
  obtain ⟨n, hin, hrun⟩ := hpoll.ops
  refine ⟨hcls, ⟨rfl, rfl, rfl, rfl⟩, ⟨n, ?_, ?_⟩, ?_⟩
  · simp [hin, hops]
  · simp [hrun, hregs, hops, hcfg]
  · simp [State.recordCollision_ids, hreg', hpoll.ids, hids]

end Sys2Proof.Machine

/-!
SUPPORT. The phases before COMMAND at the reference spacing: one poll of IDLE (R78), CLASSIFY on a low of a given length
(R79), and SYNC on a high of a given length (R80).
-/

namespace Sys2Proof

/-! ## Limits of the waits (W1) -/

theorem Config.tReset_le {c : Config} (h : c.wf = true) : c.timing.tReset ≤ 255 :=
  (Config.field_bounds h (f := (.coarse, c.timing.tReset)) (by simp [Timing.fields])).2

theorem Config.tSyncMax_le {c : Config} (h : c.wf = true) : c.timing.tSyncMax ≤ 255 :=
  (Config.field_bounds h (f := (.fine, c.timing.tSyncMax)) (by simp [Timing.fields])).2

@[simp] theorem Config.rTicks_coarse (c : Config) : c.rTicks .coarse = c.coarseRatio := rfl

end Sys2Proof

namespace Sys2Proof.Machine

/-! ## IDLE -/

/-- At the reference spacing a step's first poll is this tick's (R68). -/
theorem State.toPoll_zero {s : State} (h : s.gaps = []) : s.toPoll 0 = s := by
  cases s
  simp_all [State.toPoll, State.passTime, State.advance, State.pollGapFrom]

@[simp] theorem State.waitPoll_line (ing : Bool) (s : State) : (s.waitPoll ing).line = s.line := by
  unfold State.waitPoll; split <;> rfl

theorem idlePoll_of_gaps_nil {s : State} (h : s.gaps = []) :
    idlePoll s =
      if s.line = true then (s.beginTransaction.waitPoll true).goto .classify
      else (s.beginTransaction.waitPoll true).toPoll 1 := by
  have hfirst : s.beginTransaction.toPoll 0 = s.beginTransaction := State.toPoll_zero h
  have hline : s.beginTransaction.line = s.line := rfl
  simp only [idlePoll, hfirst, State.waitPoll_line, hline]

/-- A poll performs one ingest operation, unless this tick's poll has had its ingest point (R40, R130). -/
theorem State.waitPoll_ingest (s : State) :
    if s.ingestedNow = true then
      (s.waitPoll true).ingestIn = s.ingestIn ∧ (s.waitPoll true).regs = s.regs ∧
        (s.waitPoll true).ingestOut = s.ingestOut
    else
      (s.waitPoll true).ingestIn = s.ingestIn.drop 1 ∧
        (s.waitPoll true).regs = RegFile.runOps s.cfg (s.ingestIn.take 1) s.regs ∧
        (s.waitPoll true).ingestOut = (s.regs.ingest s.cfg (s.ingestIn.headD .nop)).2 :: s.ingestOut := by
  split
  · next h => simp [State.waitPoll_shared true s h]
  · next h =>
    have hpoll : s.waitPoll true = s.ingestPoint.markPoll := by simp [State.waitPoll, h]
    rw [hpoll]
    refine ⟨by simp, ?_, rfl⟩
    cases hops : s.ingestIn <;> simp [hops, RegFile.runOps, RegFile.ingest, RegFile.perform, IngestOp.cls]

/-- Settles O12: IDLE's poll is this tick's, and the line it reads decides where the engine goes. -/
theorem idlePollsUntilAsserted : Obligations.IdlePollsUntilAsserted := by
  intro s hwf hdue hs hgaps
  have hp := polled_waitPoll true s.beginTransaction
  have hw := watched_waitPoll true s.beginTransaction
  have hnow : (s.beginTransaction.waitPoll true).now = s.now := State.waitPoll_now ..
  have hops := s.beginTransaction.waitPoll_ingest
  refine ⟨_, step_idle hwf hdue hs, ?_⟩
  rw [idlePoll_of_gaps_nil hgaps]
  by_cases hline : s.line = true
  · rw [if_pos hline, if_pos hline]
    exact ⟨hp.tx, hp.begun, hp.ids, hp.outcome, hw.drive, hw.lineOut, hw.timer, hops, rfl, hnow⟩
  · have hgaps' : (s.beginTransaction.waitPoll true).gaps = [] := by simpa using hgaps
    rw [if_neg hline, if_neg hline]
    refine ⟨hp.tx, hp.begun, hp.ids, hp.outcome, hw.drive, hw.lineOut, hw.timer, hops, hp.state.trans hs, ?_⟩
    rw [(took_toPoll hgaps' 1).now, hnow]

/-! ## CLASSIFY -/

@[simp] theorem State.resetClass_drive (k : DevClass) (s : State) : (s.resetClass k).drive = s.drive := by
  unfold State.resetClass; split <;> rfl

@[simp] theorem State.resetClass_lineOut (k : DevClass) (s : State) : (s.resetClass k).lineOut = s.lineOut := by
  unfold State.resetClass; split <;> rfl

@[simp] theorem State.resetClass_now (k : DevClass) (s : State) : (s.resetClass k).now = s.now := by
  unfold State.resetClass; split <;> rfl

@[simp] theorem State.deviceReset_now (s : State) : s.deviceReset.now = s.now := by simp [State.deviceReset]

/-- A device reset with the line released changes nothing on it (R157). -/
theorem State.deviceReset_lineOut_of_released {s : State} (h : s.drive = false) :
    s.deviceReset.lineOut = s.lineOut := by
  simp [State.deviceReset, h]

theorem State.endTx_lineOut_of_released {s : State} (h : s.drive = false) (o : TxOutcome) :
    (s.endTx o).lineOut = s.lineOut := by
  simp [h]

/-- CLASSIFY on a low that reaches `T_RESET` (R79). -/
theorem classify_reset {s : State} {d : Nat} {rest : List Bool} (hwf : s.cfg.wf = true) (hgaps : s.gaps = [])
    (hdrive : s.drive = false) (henv : s.env = List.replicate d true ++ rest)
    (hd : s.cfg.timing.tReset * s.cfg.coarseRatio ≤ d) :
    ∃ u, Took (s.cfg.timing.tReset * s.cfg.coarseRatio) s u ∧ u.drive = false ∧ u.lineOut = s.lineOut ∧
      classify s = u.deviceReset.endTx .reset := by
  obtain ⟨hwait, hcount⟩ := took_wait_expired (lvl := false) s.cfg.timing.tReset true .coarse hgaps hdrive henv
    (Config.one_le_rTicks hwf .coarse) (Config.tReset_le hwf) hd
  obtain ⟨hreleased, hout⟩ := waitFree_drive s.cfg.timing.tReset .coarse s
  refine ⟨_, hwait, hreleased.trans hdrive, hout, ?_⟩
  simp only [classify, waitFree, hcount, Nat.le_refl, if_true]

/-- CLASSIFY on a low that ends below `T_RESET`: its length decides (R79). -/
theorem classify_released {s : State} {d : Nat} {rest : List Bool} (hwf : s.cfg.wf = true) (hgaps : s.gaps = [])
    (hdrive : s.drive = false) (henv : s.env = List.replicate d true ++ rest) (hfree : rest.headD false = false)
    (hd : d < s.cfg.timing.tReset * s.cfg.coarseRatio) :
    ∃ u, Took d s u ∧ u.drive = false ∧ u.lineOut = s.lineOut ∧
      classify s = if d < s.cfg.timing.tAttnMin * s.cfg.coarseRatio then u.endTx .spurious else u.goto .sync := by
  have hr : 1 ≤ s.cfg.coarseRatio := Config.one_le_rTicks hwf .coarse
  obtain ⟨hwait, hcount⟩ := took_wait_reached (lvl := false) s.cfg.timing.tReset true .coarse hgaps hdrive henv
    hr (Config.tReset_le hwf) hfree hd.le
  obtain ⟨hreleased, hout⟩ := waitFree_drive s.cfg.timing.tReset .coarse s
  refine ⟨_, hwait, hreleased.trans hdrive, hout, ?_⟩
  simp only [classify, waitFree, hcount, Config.rTicks_coarse, Nat.le_div_iff_mul_le hr, Nat.div_lt_iff_lt_mul hr]
  rw [if_neg (Nat.not_le.mpr hd)]

/-- Settles O13: the wait for the release ends at `T_RESET` or with the low, and the count there decides. -/
theorem classifyByLowLength : Obligations.ClassifyByLowLength := by
  intro s d rest hwf hdue hs hdrive hgaps henv
  refine ⟨_, step_classify hwf hdue hs, ?_⟩
  by_cases hreset : s.cfg.timing.tReset * s.cfg.coarseRatio ≤ d
  · obtain ⟨u, htook, hreleased, hout, hclassify⟩ := classify_reset hwf hgaps hdrive henv hreset
    rw [hclassify, if_pos hreset]
    refine ⟨rfl, ?_, rfl, rfl, (u.deviceReset_after.of_polled htook.polled).of_same rfl rfl, ?_⟩
    · rw [State.endTx_lineOut_of_released rfl, State.deviceReset_lineOut_of_released hreleased, hout]
    · rw [State.endTx_now, State.deviceReset_now, htook.now]
  · obtain ⟨u, htook, hreleased, hout, hclassify⟩ := classify_released hwf hgaps hdrive henv rfl
      (Nat.lt_of_not_le hreset)
    rw [hclassify, if_neg hreset]
    obtain ⟨hids, hops⟩ := htook.polled.devices
    split
    · exact ⟨rfl, (State.endTx_lineOut_of_released hreleased _).trans hout, rfl, rfl, hids, hops, htook.now⟩
    · exact ⟨hreleased, hout, htook.polled.outcome, rfl, hids, hops, htook.now⟩

/-! ## SYNC -/

/-- An abort with the line released changes nothing on it (R143). -/
theorem State.raiseErr_lineOut_of_released {s : State} (h : s.drive = false) (e : Err) :
    (s.raiseErr e).lineOut = s.lineOut := by
  simp [h]

theorem aborted_raiseErr (e : Err) (s : State) : Aborted e (s.raiseErr e) := ⟨rfl, rfl, rfl, rfl⟩

/-- SYNC on a high of `d` ticks that a fall ends (R80). -/
theorem syncWindow_of_high {s : State} {d : Nat} {rest : List Bool} (hwf : s.cfg.wf = true) (hgaps : s.gaps = [])
    (hdrive : s.drive = false) (henv : s.env = List.replicate d false ++ rest) (hfall : rest.headD false = true) :
    ∃ u, Took (min d s.cfg.timing.tSyncMax) s u ∧ u.drive = false ∧ u.lineOut = s.lineOut ∧
      syncWindow s =
        if s.cfg.timing.tSyncMin ≤ d ∧ d < s.cfg.timing.tSyncMax then u.goto .command else u.raiseErr .syncWindow := by
  have hmax := Config.tSyncMax_le hwf
  obtain ⟨hreleased, hout⟩ := waitAssert_drive s.cfg.timing.tSyncMax .fine s
  have hwait : Took (min d s.cfg.timing.tSyncMax) s (waitAssert s.cfg.timing.tSyncMax .fine s).1 ∧
      (waitAssert s.cfg.timing.tSyncMax .fine s).2 = min d s.cfg.timing.tSyncMax := by
    rcases Nat.le_total d s.cfg.timing.tSyncMax with h | h
    · rw [Nat.min_eq_left h]
      exact took_waitAssert_reached hgaps hdrive hmax henv hfall h
    · rw [Nat.min_eq_right h]
      exact took_waitAssert_expired hgaps hdrive hmax henv h
  obtain ⟨htook, hcount⟩ := hwait
  have houtside : min d s.cfg.timing.tSyncMax < s.cfg.timing.tSyncMin ∨
      s.cfg.timing.tSyncMax ≤ min d s.cfg.timing.tSyncMax ↔
      ¬(s.cfg.timing.tSyncMin ≤ d ∧ d < s.cfg.timing.tSyncMax) := by omega
  refine ⟨_, htook, hreleased.trans hdrive, hout, ?_⟩
  simp only [syncWindow, hcount, houtside, ite_not]

/-- Settles O14: the wait for the fall ends at it or at `T_SYNC_MAX`, and the count there decides. -/
theorem syncByHighLength : Obligations.SyncByHighLength := by
  intro s d rest hwf hdue hs hdrive hgaps henv
  obtain ⟨u, htook, hreleased, hout, hsync⟩ := syncWindow_of_high hwf hgaps hdrive henv rfl
  obtain ⟨hids, hops⟩ := htook.polled.devices
  refine ⟨_, step_sync hwf hdue hs, ?_⟩
  rw [hsync]
  split
  · next h =>
    obtain ⟨-, hd⟩ := h
    rw [Nat.min_eq_left hd.le] at htook
    exact ⟨hids, hops, hout, rfl, htook.polled.outcome, htook.now⟩
  · exact ⟨hids, hops, (State.raiseErr_lineOut_of_released hreleased _).trans hout, aborted_raiseErr _ _, htook.now⟩

end Sys2Proof.Machine

/-!
SUPPORT. The Service-Request Window (R83, R84): its start, which latches the address match, and its end at the reference
spacing, where the line has been released or the ceiling reached.
-/

namespace Sys2Proof

/-! ## Limits of the window (W1, W6) -/

theorem Config.tSrqCeil_le {c : Config} (h : c.wf = true) : c.timing.tSrqCeil ≤ 255 :=
  (Config.field_bounds h (f := (.coarse, c.timing.tSrqCeil)) (by simp [Timing.fields])).2

/-- W6. -/
theorem Config.tSrqAssert_lt_tSrqCeil {c : Config} (h : c.wf = true) : c.timing.tSrqAssert < c.timing.tSrqCeil := by
  simp only [Config.wf, Bool.and_eq_true] at h
  obtain ⟨⟨⟨⟨-, h6⟩, -⟩, -⟩, -⟩ := h
  simpa [Config.w6] using h6

end Sys2Proof

namespace Sys2Proof.Machine

/-! ## The phase start -/

/-- The phase start latches the match of the command byte's address (R82, R84). -/
@[simp] theorem srqStart_tx (s : State) : (srqStart s).tx = { s.tx with target := s.matchMask (fieldA s.tx.cmd) } := rfl

@[simp] theorem srqStart_cfg (s : State) : (srqStart s).cfg = s.cfg := rfl
@[simp] theorem srqStart_drive (s : State) : (srqStart s).drive = s.drive := rfl
@[simp] theorem srqStart_ids (s : State) : (srqStart s).ids = s.ids := rfl
@[simp] theorem srqStart_regs (s : State) : (srqStart s).regs = s.regs := rfl
@[simp] theorem srqStart_ingestIn (s : State) : (srqStart s).ingestIn = s.ingestIn := rfl
@[simp] theorem srqStart_ingestOut (s : State) : (srqStart s).ingestOut = s.ingestOut := rfl
@[simp] theorem srqStart_lineOut (s : State) : (srqStart s).lineOut = s.lineOut := rfl

/-- The decision is made on the masks at the phase start (R83). -/
theorem srqStart_srqMask (s : State) :
    (srqStart s).srqMask = s.needsService.andNot (s.matchMask (fieldA s.tx.cmd)) := by
  simp [State.srqMask, State.needsService]

/-- Without a request the window only waits for its end (R84). -/
theorem srqPhase_of_no_request {s : State}
    (h : s.needsService.andNot (s.matchMask (fieldA s.tx.cmd)) = ClassMask.zero) :
    srqPhase s = srqSettle (srqStart s) := by
  simp only [srqPhase, srqStart_srqMask, h, if_true]

/-- With a request the decision poll says whether CORE asserts (R84). -/
theorem srqPhase_of_request {s : State}
    (h : s.needsService.andNot (s.matchMask (fieldA s.tx.cmd)) ≠ ClassMask.zero) :
    srqPhase s =
      if (srqStart s).pollLine.2 = true then srqSettle (srqAssert (srqStart s).pollLine.1)
      else (srqStart s).pollLine.1.raiseErr .srqReleased := by
  simp only [srqPhase, srqStart_srqMask, h, if_false]

/-- Settles O21: the decision poll is the window's only event, and it finds CORE's driver and the line released. -/
theorem srqRequestTooLate : Obligations.SrqRequestTooLate := by
  intro s hwf hdue hs hrequest hline
  obtain ⟨hdrive, -⟩ : (srqStart s).pollLine.1.drive = false ∧ _ := Bool.or_eq_false_iff.mp hline
  have hout := State.raiseErr_lineOut_of_released hdrive .srqReleased
  refine ⟨_, step_srq hwf hdue hs, ?_⟩
  rw [srqPhase_of_request hrequest, if_neg (by simp [hline])]
  refine ⟨aborted_raiseErr _ _, hout.trans ?_, ?_⟩
  · simp [State.pollLine]
  · simp [State.pollLine]

/-! ## The end of the window at the reference spacing -/

theorem srqStart_now {s : State} (h : s.gaps = []) : (srqStart s).now = s.now := (took_timerStart h .coarse).now

/-- `w` is reached in the window of `s` by engine events alone, `a` ticks after the phase start and with CORE's driver
released. -/
structure InWindow (s : State) (a : Nat) (w : State) : Prop where
  took : Took a (srqStart s) w
  released : w.drive = false
  timer : w.timer = ⟨.coarse, (srqStart s).now, true⟩

theorem InWindow.cfg {s w : State} {a : Nat} (h : InWindow s a w) : w.cfg = s.cfg :=
  h.took.polled.cfg.trans (srqStart_cfg s)

theorem inWindow_srqStart {s : State} (hgaps : s.gaps = []) (hdrive : s.drive = false) :
    InWindow s 0 (srqStart s) :=
  ⟨⟨.refl _, rfl, (took_timerStart hgaps .coarse).gaps⟩, hdrive, rfl⟩

/-- The line in the window, as far as the other drivers make it. -/
theorem InWindow.line_advance {s w : State} {a : Nat} (h : InWindow s a w) (hgaps : s.gaps = [])
    (hdrive : s.drive = false) (i : Nat) : (w.advance i).line = (s.advance (a + i)).line := by
  have hstart : ((srqStart s).advance (a + i)).line = (s.advance (0 + (a + i))).line :=
    (took_timerStart hgaps .coarse).line_advance rfl (a + i)
  rw [h.took.line_advance (h.released.trans hdrive.symm), hstart, Nat.zero_add]

section Settle

variable {s u : State} {a d : Nat} (hwf : s.cfg.wf = true) (hgaps : s.gaps = []) (hdrive : s.drive = false)
  (hu : InWindow s a u) (ha : a < s.cfg.timing.tSrqCeil * s.cfg.coarseRatio)
  (hlow : ∀ i < d, (s.advance i).line ≠ false) (hhigh : (s.advance (max d a)).line = false)

include hwf hgaps hdrive hu ha hlow hhigh

/-- The window's wait, entered `a` ticks after the phase start below the ceiling, on a line that the other drivers hold for
`d` ticks: it ends at the later of the two, or aborts at the ceiling (R84, D24). -/
theorem srqSettle_of_low :
    ∃ w, InWindow s (min (max d a) (s.cfg.timing.tSrqCeil * s.cfg.coarseRatio)) w ∧ w.lineOut = u.lineOut ∧
      srqSettle u =
        if d < s.cfg.timing.tSrqCeil * s.cfg.coarseRatio then (w.timerStart .coarse).goto .dispatch
        else w.raiseErr .srqCeil := by
  have hr : 1 ≤ s.cfg.coarseRatio := Config.one_le_rTicks hwf .coarse
  obtain ⟨k, hk⟩ : ∃ k, min (max d a) (s.cfg.timing.tSrqCeil * s.cfg.coarseRatio) = a + k :=
    Nat.exists_eq_add_of_le (by omega)
  have hwatch := watched_pollUntil false s.cfg.timing.tSrqCeil true u
  have h := took_pollUntil false s.cfg.timing.tSrqCeil true u k hu.took.gaps
  simp only [hu.timer, hu.took.now, hu.cfg, hu.line_advance hgaps hdrive, Config.rTicks_coarse, Nat.add_assoc,
    Nat.add_le_add_iff_left, Nat.add_left_cancel_iff, Nat.add_sub_cancel_left] at h
  have hend : (s.advance (a + k)).line = false ∨ a + k = s.cfg.timing.tSrqCeil * s.cfg.coarseRatio := by
    rcases Nat.le_total (max d a) (s.cfg.timing.tSrqCeil * s.cfg.coarseRatio) with hle | hle
    · rw [Nat.min_eq_left hle] at hk
      exact .inl (hk ▸ hhigh)
    · rw [Nat.min_eq_right hle] at hk
      exact .inr hk.symm
  obtain ⟨htook, hcount⟩ := h trivial (Nat.le_add_right ..) hr (Config.tSrqCeil_le hwf)
    (fun i hi => hlow _ (by omega)) (by omega) hend
  have hbelow : s.cfg.timing.tSrqCeil * s.cfg.coarseRatio ≤ a + k ↔
      ¬d < s.cfg.timing.tSrqCeil * s.cfg.coarseRatio := by omega
  refine ⟨_, ⟨hk ▸ hu.took.trans htook, hwatch.drive.trans hu.released, hwatch.timer.trans hu.timer⟩,
    hwatch.lineOut, ?_⟩
  simp only [srqSettle, hu.cfg, hcount, Nat.le_div_iff_mul_le hr, hbelow, ite_not]

/-- What the window leaves at its end, DISPATCH with Tlt's timer started or the abort at the ceiling (R84). -/
theorem srqSettle_ends :
    (srqSettle u).ids = s.ids ∧ ingestedOnly s (srqSettle u) s.regs ∧ (srqSettle u).lineOut = u.lineOut ∧
      (srqSettle u).tx.target = s.matchMask (fieldA s.tx.cmd) ∧ (srqSettle u).tx.cmd = s.tx.cmd ∧
      (if d < s.cfg.timing.tSrqCeil * s.cfg.coarseRatio then
        (srqSettle u).state = .dispatch ∧ (srqSettle u).atTltStart ∧ (srqSettle u).now = s.now + max d a
       else
        Aborted .srqCeil (srqSettle u) ∧
          (srqSettle u).now = s.now + s.cfg.timing.tSrqCeil * s.cfg.coarseRatio) := by
  obtain ⟨w, hw, hout, hsettle⟩ := srqSettle_of_low hwf hgaps hdrive hu ha hlow hhigh
  have hp := hw.took.polled
  have hnow := hw.took.now
  rw [srqStart_now hgaps] at hnow
  have htx := hp.tx.trans (srqStart_tx s)
  have hids := hp.ids.trans (srqStart_ids s)
  have hops : ingestedOnly s w s.regs := by simpa [ingestedOnly] using hp.ops
  rw [hsettle]
  split
  · have hstart := took_timerStart hw.took.gaps .coarse
    have hnow' : (w.timerStart .coarse).now = s.now + max d a := by rw [hstart.now, hnow]; omega
    exact ⟨hids, hops, hout, by simp [htx], by simp [htx], rfl, ⟨hw.cfg ▸ hwf, hw.released, rfl⟩, hnow'⟩
  · have hnow' : w.now = s.now + s.cfg.timing.tSrqCeil * s.cfg.coarseRatio := by rw [hnow]; omega
    exact ⟨hids, hops, (State.raiseErr_lineOut_of_released hw.released _).trans hout, by simp [htx], by simp [htx],
      aborted_raiseErr _ _, hnow'⟩

end Settle

/-- Settles O19: the window's wait starts with the window. -/
theorem srqWithoutRequest : Obligations.SrqWithoutRequest := by
  intro s d rest hwf hdue hs hdrive hgaps hmask henv
  have hr : 1 ≤ s.cfg.coarseRatio := Config.one_le_rTicks hwf .coarse
  have hceil : 1 ≤ s.cfg.timing.tSrqCeil := Nat.one_le_of_lt (Config.tSrqAssert_lt_tSrqCeil hwf)
  have hhigh : (s.advance (max d 0)).line = false := by
    rw [Nat.max_zero, State.line_advance, henv, List.drop_left' (by simp), hdrive]
    rfl
  have h := srqSettle_ends hwf hgaps hdrive (inWindow_srqStart hgaps hdrive) (Nat.mul_pos hceil hr)
    (fun i hi => State.line_advance_ne (lvl := false) hdrive henv hi) hhigh
  rw [Nat.max_zero] at h
  refine ⟨_, step_srq hwf hdue hs, ?_⟩
  rw [srqPhase_of_no_request hmask]
  exact h

/-! ## CORE's own assertion -/

/-- CORE asserts at once and releases `T_SRQ_ASSERT` after the timer's start (R84, R171). -/
theorem took_srqAssert {s : State} (hwf : s.cfg.wf = true) (hgaps : s.gaps = []) (hdrive : s.drive = false)
    (htimer : s.timer = ⟨.coarse, s.now, true⟩) :
    Took (s.cfg.timing.tSrqAssert * s.cfg.coarseRatio) s (srqAssert s) ∧ (srqAssert s).timer = s.timer ∧
      (srqAssert s).lineOut =
        (s.now + s.cfg.timing.tSrqAssert * s.cfg.coarseRatio, false) :: (s.now, true) :: s.lineOut := by
  have hr : 1 ≤ s.cfg.coarseRatio := Config.one_le_rTicks hwf .coarse
  have hassert : s.cfg.timing.tSrqAssert ≤ 255 :=
    (Config.tSrqAssert_lt_tSrqCeil hwf).le.trans (Config.tSrqCeil_le hwf)
  have hdue := took_dueBy hgaps (s.holdDue s.cfg.timing.tSrqAssert)
  have hfall := hdue.zero_trans (took_driveLine hdue.gaps true)
  dsimp only [srqAssert]
  have htimer' : ((s.dueBy (s.holdDue s.cfg.timing.tSrqAssert)).driveLine true).timer = s.timer := by simp
  have hlow : ((s.dueBy (s.holdDue s.cfg.timing.tSrqAssert)).driveLine true).drive = true := by simp
  have hout : ((s.dueBy (s.holdDue s.cfg.timing.tSrqAssert)).driveLine true).lineOut = (s.now, true) :: s.lineOut := by
    simp [hdrive, State.eventGap_of_gaps_nil hdue.gaps]
  generalize (s.dueBy (s.holdDue s.cfg.timing.tSrqAssert)).driveLine true = v at *
  have hhold := took_holdUntil s.cfg.timing.tSrqAssert true v (s.cfg.timing.tSrqAssert * s.cfg.coarseRatio) hfall.gaps
    hlow
  simp only [htimer', htimer, hfall.now, hfall.polled.cfg, Nat.add_zero, Config.rTicks_coarse] at hhold
  replace hhold := hhold trivial (Nat.le_refl _) hr hassert trivial
  have hwatch := watched_holdUntil s.cfg.timing.tSrqAssert true v
  generalize holdUntil s.cfg.timing.tSrqAssert true v = w at *
  have hdue' := took_dueBy hhold.gaps w.wrapDue
  have hnow := (hfall.zero_trans hhold).now
  refine ⟨(hfall.zero_trans hhold).trans (hdue'.zero_trans (took_driveLine hdue'.gaps false)),
    by simp [hwatch.timer, htimer'], ?_⟩
  simp [State.eventGap_of_gaps_nil hdue'.gaps, hwatch.drive, hwatch.lineOut, hlow, hout, hnow]

/-- Settles O20: the line is low at the decision poll, so CORE asserts, and the window's wait starts at its release. -/
theorem srqRequestHoldsLine : Obligations.SrqRequestHoldsLine := by
  intro s d rest hwf hdue hs hdrive hgaps hmask hd henv hrest
  have hr : 1 ≤ s.cfg.coarseRatio := Config.one_le_rTicks hwf .coarse
  have hlow (i : Nat) (hi : i < d) : (s.advance i).line ≠ false :=
    State.line_advance_ne (lvl := false) hdrive henv hi
  have hhigh : (s.advance (max d (s.cfg.timing.tSrqAssert * s.cfg.coarseRatio))).line = false := by
    have hquiet : (s.advance d).quiet := fun b hb => hrest b (by simpa [henv] using hb)
    obtain ⟨i, hi⟩ := Nat.exists_eq_add_of_le (Nat.le_max_left d (s.cfg.timing.tSrqAssert * s.cfg.coarseRatio))
    have h := hquiet.headD_drop i
    rw [State.advance_env, List.drop_drop] at h
    rw [hi, State.line_advance, hdrive, h]
    rfl
  have hstart := inWindow_srqStart hgaps hdrive
  have hline : (srqStart s).pollLine.2 = true := by
    rw [State.pollLine_line hstart.took.gaps]
    exact (hstart.line_advance hgaps hdrive 0).trans (eq_true_of_ne_false (hlow 0 hd))
  have hpoll := took_pollLine hstart.took.gaps
  have hwatch : Watched (srqStart s) (srqStart s).pollLine.1 := ⟨rfl, rfl, rfl⟩
  have hphase : srqPhase s = srqSettle (srqAssert (srqStart s).pollLine.1) := by
    rw [srqPhase_of_request hmask, if_pos hline]
  generalize (srqStart s).pollLine.1 = p at *
  have hcfg : p.cfg = s.cfg := hpoll.polled.cfg.trans (srqStart_cfg s)
  have hnow : p.now = s.now := hpoll.now.trans (srqStart_now hgaps)
  obtain ⟨hassert, htimer, hedges⟩ := took_srqAssert (hcfg ▸ hwf) hpoll.gaps (hwatch.drive.trans hdrive)
    (hwatch.timer.trans (hpoll.now ▸ hstart.timer))
  rw [hcfg, hnow, hwatch.lineOut, srqStart_lineOut] at hedges
  rw [hcfg] at hassert
  have hwindow : InWindow s (s.cfg.timing.tSrqAssert * s.cfg.coarseRatio) (srqAssert p) :=
    ⟨hpoll.zero_trans hassert, srqAssert_drive _, htimer.trans (hwatch.timer.trans hstart.timer)⟩
  have hbelow := Nat.mul_lt_mul_of_pos_right (Config.tSrqAssert_lt_tSrqCeil hwf) hr
  have h := srqSettle_ends hwf hgaps hdrive hwindow hbelow hlow hhigh
  rw [hedges] at h
  refine ⟨_, step_srq hwf hdue hs, ?_⟩
  rw [hphase]
  exact h

end Sys2Proof.Machine

/-!
SUPPORT. The state in which a command's own part runs (`State.addressed`, `State.talking`), and the commands that end at
DISPATCH without time on the line: FLUSH (R97), the reserved rows (R98), and a Talk of a register with no data (R113).
-/

namespace Sys2Proof.Machine

/-! ## The addressed command -/

/-- `s` as DISPATCH enters the state `e` for class `k` and register `r` (R85). -/
def State.addressed (k : DevClass) (r : RegNum) (e : EngineState) (s : State) : State :=
  ((s.setTarget (ClassMask.onehot k)).setReg r).goto e

section

variable (k : DevClass) (r : RegNum) (e : EngineState) (s : State)

@[simp] theorem State.addressed_cfg : (s.addressed k r e).cfg = s.cfg := rfl
@[simp] theorem State.addressed_tx :
    (s.addressed k r e).tx = { s.tx with target := ClassMask.onehot k, reg := r } := rfl
@[simp] theorem State.addressed_drive : (s.addressed k r e).drive = s.drive := rfl
@[simp] theorem State.addressed_timer : (s.addressed k r e).timer = s.timer := rfl
@[simp] theorem State.addressed_ids : (s.addressed k r e).ids = s.ids := rfl
@[simp] theorem State.addressed_regs : (s.addressed k r e).regs = s.regs := rfl
@[simp] theorem State.addressed_begun : (s.addressed k r e).begun = s.begun := rfl
@[simp] theorem State.addressed_resetEntry : (s.addressed k r e).resetEntry = s.resetEntry := rfl
@[simp] theorem State.addressed_now : (s.addressed k r e).now = s.now := rfl
@[simp] theorem State.addressed_env : (s.addressed k r e).env = s.env := rfl
@[simp] theorem State.addressed_gaps : (s.addressed k r e).gaps = s.gaps := rfl
@[simp] theorem State.addressed_slack : (s.addressed k r e).slack = s.slack := rfl
@[simp] theorem State.addressed_ingestIn : (s.addressed k r e).ingestIn = s.ingestIn := rfl
@[simp] theorem State.addressed_lineOut : (s.addressed k r e).lineOut = s.lineOut := rfl

end

/-- Production reads no register that DISPATCH has just written. -/
theorem State.produce_addressed (k j : DevClass) (r q : RegNum) (e : EngineState) (s : State) :
    (s.addressed k r e).produce j q = (s.produce j q).addressed k r e := by
  obtain rfl | rfl | rfl | rfl := twoBitField_cases q
  · simp only [State.produce_r0, State.produceR0]
    cases j with
    | kbd => rw [State.produceKbdR0, State.produceKbdR0, apply_ite (State.addressed k r e)]; rfl
    | mouse => rw [State.produceMouseR0, State.produceMouseR0, apply_ite (State.addressed k r e)]; rfl
    | arb => rw [State.produceArbR0, State.produceArbR0, apply_ite (State.addressed k r e)]; rfl
  · rfl
  · cases j with
    | kbd => rfl
    | mouse => rfl
    | arb =>
      show (s.addressed k r e).produceArbR2 = s.produceArbR2.addressed k r e
      rw [State.produceArbR2, State.produceArbR2, apply_ite (State.addressed k r e)]
      rfl
  · rfl

/-! ## FLUSH and the reserved rows -/

/-- Settles O23: the class's registers in their cleared values, and an end with the line released already. -/
theorem flushClearsAddressedClass : Obligations.FlushClearsAddressedClass := by
  intro s a k hdrive hk
  show Host.Outcome.next (s.command a fun k s1 => (s1.flushClass k).endTx .flushed) = _
  rw [State.command_some _ hk, State.endTx_of_released (by exact hdrive)]
  cases k with
  | kbd => rfl
  | mouse => rfl
  | arb => rfl

/-- A reserved row on an addressed class (R98). -/
theorem State.reserved_some {s : State} {a : BusAddr} {k : DevClass} (r : RegNum) (hdrive : s.drive = false)
    (hk : s.matchClass a = some k) :
    s.reserved a r =
      { s with state := .idle, outcome := .reserved, tx := { s.tx with target := ClassMask.onehot k, reg := r } } := by
  rw [State.reserved, State.command_some _ hk, State.endTx_of_released (by exact hdrive)]
  rfl

/-- Settles O24: all four rows are `State.reserved` with their own register bits. -/
theorem reservedCommandsDoNothing : Obligations.ReservedCommandsDoNothing := by
  intro s a k q hdrive hk p hp
  simp only [List.mem_cons, List.not_mem_nil, or_false] at hp
  obtain rfl | rfl | rfl | rfl := hp <;> exact congrArg _ (State.reserved_some _ hdrive hk)

/-! ## The Talk phase from production on -/

/-- `s` at the start of a Talk's turnaround: DISPATCH has entered TALK, and production has been done (R87). -/
def State.talking (k : DevClass) (r : RegNum) (s : State) : State := (s.produce k r).addressed k r .talk

/-- A Talk on an addressed class is the Talk phase for it (R85). -/
theorem exec_talkOf_some {s : State} {a : BusAddr} {k : DevClass} (r : RegNum) (hk : s.matchClass a = some k) :
    exec (talkOf a r) s = .next (talkPhase k (s.addressed k r .talk)) := by
  rw [exec_talkOf, State.talk, State.command_some _ hk]
  rfl

/-- What the Talk phase does from production on (R87). -/
theorem talkPhase_addressed (k : DevClass) (r : RegNum) (s : State) :
    talkPhase k (s.addressed k r .talk) =
      if (s.produce k r).tx.len = 0 then (s.talking k r).endTx .talkNoData
      else
        let w := pollUntil true (s.talking k r).cfg.timing.tTlt true (s.talking k r)
        if w.2 < (s.talking k r).cfg.timing.tTlt then (w.1.recordCollision k).raiseErr .tlt else talkSend k w.1 := by
  have hproduce : (s.addressed k r .talk).produce k (s.addressed k r .talk).tx.reg = s.talking k r :=
    s.produce_addressed k k r r .talk
  simp only [talkPhase, hproduce]
  rfl

/-! ## A Talk with no data -/

/-- A register with no data gives a Talk the length 0 and nothing else (R105, R108, R110, R112, R113). -/
theorem State.produce_of_noTalkData {s : State} {k : DevClass} {r : RegNum} (h : noTalkData s k r) :
    s.produce k r = s.produceNone := by
  obtain rfl | ⟨rfl, rfl, hsize⟩ | ⟨rfl, rfl, hbuttons, hx, hy⟩ | ⟨rfl, rfl⟩ | ⟨rfl, rfl, hready⟩ |
    ⟨rfl, rfl, hset⟩ := h
  · rfl
  · exact if_pos hsize
  · have hidle : s.regs.mouse.pending ≠ true := by simp [Mouse.pending_iff, hbuttons, hx, hy]
    exact if_neg hidle
  · rfl
  · have hnot : s.regs.arb.r0ready ≠ true := by simp [hready]
    exact if_neg hnot
  · have hnot : s.regs.arb.r2set ≠ true := by simp [hset]
    exact if_neg hnot

/-- Settles O25: with the length 0 the phase ends at once, with the line released already. -/
theorem talkWithoutDataIsSilent : Obligations.TalkWithoutDataIsSilent := by
  intro s a k r hdrive hk hnone
  have hproduce := State.produce_of_noTalkData hnone
  have hlen : (s.produce k r).tx.len = 0 := by rw [hproduce]; rfl
  rw [exec_talkOf_some r hk, talkPhase_addressed, if_pos hlen, State.talking, hproduce,
    State.endTx_of_released (by exact hdrive)]
  rfl

/-- Settles O26: register 1 has no data in any class. -/
theorem talkReg1AlwaysSilent : Obligations.TalkReg1AlwaysSilent :=
  fun s a k hdrive hk => ⟨_, talkWithoutDataIsSilent s a k 0b01#2 hdrive hk (.inl rfl), rfl, rfl, rfl, rfl, rfl, rfl⟩

end Sys2Proof.Machine

/-!
SUPPORT. Transmission on a quiet line: `Sent bits s r` says once what sending `bits` from `s` comes to, for every
spacing of polls no error, and at the reference spacing R49's edges in R171's time. From one bit it goes to a byte and a frame
(R73, R74), and so to the Talk phase on a quiet bus (R87).
-/

namespace Sys2Proof

/-! ## Limit of the turnaround (W1) -/

theorem Config.tTlt_le {c : Config} (h : c.wf = true) : c.timing.tTlt ≤ 255 :=
  (Config.field_bounds h (f := (.coarse, c.timing.tTlt)) (by simp [Timing.fields])).2

end Sys2Proof

namespace Sys2Proof.Machine

/-! ## A quiet line -/

theorem Polled.quiet {s t : State} (h : Polled s t) (hq : s.quiet) : t.quiet :=
  fun b hb => hq b (List.mem_of_mem_drop (h.env ▸ hb))

/-- On a quiet line a wait for an assertion ends by its limit, wherever its polls fall (R69). -/
theorem limit_le_pollUntil_of_quiet (T : Nat) (ing : Bool) {s : State} (hdrive : s.drive = false) (hquiet : s.quiet) :
    T ≤ (pollUntil true T ing s).2 := by
  refine Nat.le_of_not_lt fun h => ?_
  have hline := (polled_pollUntil true T ing s).line_of_quiet hquiet
    ((watched_pollUntil true T ing s).drive.trans hdrive)
  exact Bool.noConfusion (hline.symm.trans (pollUntil_reached true T ing s h))

/-- WriteBit meets no other driver on a quiet line, for every spacing (R73). -/
theorem writeBit_err_of_quiet (b : Bool) {s : State} (hdrive : s.drive = false) (hquiet : s.quiet) :
    (writeBit b s).2 = .none := by
  have hpoll := polled_pollLine s
  have hline : s.pollLine.2 = false := hpoll.line_of_quiet hquiet hdrive
  have hlimit (T lo : Nat) : T ≤ (waitAssert T .fine (writeLow lo s.pollLine.1)).2 :=
    limit_le_pollUntil_of_quiet T true (writeLow_drive lo s.pollLine.1)
      ((hpoll.trans ((polled_writeLow lo _).trans (polled_timerStart .fine _))).quiet hquiet)
  simp only [writeBit, hline, Bool.false_eq_true, if_false]
  rw [if_neg (Nat.not_lt.mpr (hlimit _ _))]

/-! ## What is sent -/

/-- The time of a bit cell, which is the same for both bits (R49, R171). -/
def bitTime (t : Timing) : Nat := t.tBitShort + t.tBitLong

theorem sentEdges_append (t : Timing) (bs cs : List Bool) (t0 : Nat) (out : List (Nat × Bool)) :
    sentEdges t (bs ++ cs) t0 out = sentEdges t cs (t0 + bs.length * bitTime t) (sentEdges t bs t0 out) := by
  induction bs generalizing t0 out with
  | nil => simp [sentEdges]
  | cons b bs ih =>
    have htime : t0 + (sentLow t b + sentHigh t b) + bs.length * bitTime t =
        t0 + (bs.length + 1) * bitTime t := by
      rw [sentLow_add_sentHigh, ← bitTime, Nat.succ_mul]
      omega
    rw [List.cons_append, sentEdges, ih, List.length_cons, sentEdges, Nat.add_assoc t0, htime]

/-- `r` is the result of sending `bits` from `s` with success; the edges and the time are those of the reference
spacing. -/
structure Sent (bits : List Bool) (s : State) (r : State × Err) : Prop where
  err : r.2 = .none
  polled : Polled s r.1
  released : r.1.drive = false
  timed : s.cfg.wf = true → s.gaps = [] →
    Took (bits.length * bitTime s.cfg.timing) s r.1 ∧ r.1.lineOut = sentEdges s.cfg.timing bits s.now s.lineOut

theorem sent_nil {s : State} (hdrive : s.drive = false) : Sent [] s (s, .none) :=
  ⟨rfl, .refl s, hdrive, fun _ hgaps => ⟨⟨.refl s, by simp, hgaps⟩, rfl⟩⟩

/-- One transmission after another sends the bits of both (R74, R87). -/
theorem Sent.onSent {bs cs : List Bool} {s : State} {r : State × Err} {f : State → State × Err} (h : Sent bs s r)
    (hf : Sent cs r.1 (f r.1)) : Sent (bs ++ cs) s (onSent r f) := by
  have hthen : Machine.onSent r f = f r.1 := if_pos h.err
  rw [hthen]
  refine ⟨hf.err, h.polled.trans hf.polled, hf.released, fun hwf hgaps => ?_⟩
  obtain ⟨hfirst, hedges⟩ := h.timed hwf hgaps
  obtain ⟨hsecond, hedges'⟩ := hf.timed (hfirst.polled.cfg ▸ hwf) hfirst.gaps
  rw [hfirst.polled.cfg] at hsecond hedges'
  refine ⟨?_, ?_⟩
  · rw [List.length_append, Nat.add_mul]
    exact hfirst.trans hsecond
  · rw [hedges', hedges, hfirst.now, sentEdges_append]

theorem sent_writeBit (b : Bool) {s : State} (hdrive : s.drive = false) (hquiet : s.quiet) :
    Sent [b] s (writeBit b s) := by
  refine ⟨writeBit_err_of_quiet b hdrive hquiet, polled_writeBit b s, writeBit_released b s hdrive,
    fun hwf hgaps => ?_⟩
  obtain ⟨u, hlow, hreleased, hedges, hwrite⟩ := writeBit_of_high b hwf hgaps hdrive (hquiet.headD_drop 0)
  obtain ⟨hwait, -⟩ := took_waitAssert_quiet hlow.gaps hreleased (sentHigh_le hwf b) (hlow.polled.quiet hquiet)
  have htook := hlow.trans hwait
  rw [sentLow_add_sentHigh] at htook
  rw [hwrite]
  refine ⟨?_, (waitAssert_drive (sentHigh s.cfg.timing b) .fine u).2.trans hedges⟩
  rwa [List.length_singleton, Nat.one_mul]

/-- The bits `n−1` down to 0 of `v`, in the order `WriteByte` sends them (R74). -/
def bitsDown (v : Byte) : Nat → List Bool
  | 0 => []
  | n + 1 => v.getLsbD n :: bitsDown v n

theorem sent_writeBits (v : Byte) (n : Nat) {s : State} (hdrive : s.drive = false) (hquiet : s.quiet) :
    Sent (bitsDown v n) s (writeBits v n s) := by
  induction n generalizing s with
  | zero => exact sent_nil hdrive
  | succ n ih =>
    have hbit := sent_writeBit (v.getLsbD n) hdrive hquiet
    exact hbit.onSent (ih hbit.released (hbit.polled.quiet hquiet))

theorem sent_writeByte (v : Byte) {s : State} (hdrive : s.drive = false) (hquiet : s.quiet) :
    Sent (bitsMsb v) s (writeByte v s) :=
  sent_writeBits v 8 hdrive hquiet

theorem sent_writeBytes (bytes : List Byte) {s : State} (hdrive : s.drive = false) (hquiet : s.quiet) :
    Sent (bytes.flatMap bitsMsb) s (writeBytes bytes s) := by
  induction bytes generalizing s with
  | nil => exact sent_nil hdrive
  | cons b rest ih =>
    have hbyte := sent_writeByte b hdrive hquiet
    exact hbyte.onSent (ih hbyte.released (hbyte.polled.quiet hquiet))

/-- A data frame on a quiet line (R54, R87). -/
theorem sent_sendFrame (bytes : List Byte) {s : State} (hdrive : s.drive = false) (hquiet : s.quiet) :
    Sent (frameBits bytes) s (sendFrame bytes s) := by
  have hstart := sent_writeBit true hdrive hquiet
  have hdata := hstart.onSent (sent_writeBytes bytes hstart.released (hstart.polled.quiet hquiet))
  exact hdata.onSent (sent_writeBit false hdata.released (hdata.polled.quiet hquiet))

theorem length_frameBits (bytes : List Byte) : (frameBits bytes).length = 8 * bytes.length + 2 := by
  have hbytes : (bytes.flatMap bitsMsb).length = 8 * bytes.length := by
    induction bytes with
    | nil => rfl
    | cons b rest ih => rw [List.flatMap_cons, List.length_append, ih, List.length_cons]; simp [bitsMsb]; omega
  simp [frameBits, hbytes]

/-! ## The Talk phase on a quiet bus -/

section

variable (k : DevClass) (r : RegNum) (s : State)

/-- The drain writes the register file alone, and only in a Talk of register 0 (R103). -/
theorem State.drainReg_eq :
    s.drainReg k r = { s with regs := if r = 0b00#2 then s.regs.drainR0 s.cfg s.tx k else s.regs } := by
  unfold State.drainReg; split <;> rfl

@[simp] theorem State.drainReg_tx : (s.drainReg k r).tx = s.tx := by rw [State.drainReg_eq]
@[simp] theorem State.drainReg_drive : (s.drainReg k r).drive = s.drive := by rw [State.drainReg_eq]
@[simp] theorem State.drainReg_lineOut : (s.drainReg k r).lineOut = s.lineOut := by rw [State.drainReg_eq]
@[simp] theorem State.drainReg_now : (s.drainReg k r).now = s.now := by rw [State.drainReg_eq]
@[simp] theorem State.drainReg_ingestIn : (s.drainReg k r).ingestIn = s.ingestIn := by rw [State.drainReg_eq]
@[simp] theorem State.drainReg_begun : (s.drainReg k r).begun = s.begun := by rw [State.drainReg_eq]
@[simp] theorem State.drainReg_resetEntry : (s.drainReg k r).resetEntry = s.resetEntry := by rw [State.drainReg_eq]

theorem State.drainReg_regs :
    (s.drainReg k r).regs = if r = 0b00#2 then s.regs.drainR0 s.cfg s.tx k else s.regs := by
  rw [State.drainReg_eq]

@[simp] theorem State.talking_cfg : (s.talking k r).cfg = s.cfg := s.produce_cfg k r
@[simp] theorem State.talking_ids : (s.talking k r).ids = s.ids := s.produce_ids k r
@[simp] theorem State.talking_regs : (s.talking k r).regs = (s.produce k r).regs := rfl
@[simp] theorem State.talking_drive : (s.talking k r).drive = s.drive := by
  rw [State.talking, State.addressed_drive, s.produce_frame k r]
@[simp] theorem State.talking_env : (s.talking k r).env = s.env := by
  rw [State.talking, State.addressed_env, s.produce_frame k r]
@[simp] theorem State.talking_gaps : (s.talking k r).gaps = s.gaps := by
  rw [State.talking, State.addressed_gaps, s.produce_frame k r]
@[simp] theorem State.talking_now : (s.talking k r).now = s.now := by
  rw [State.talking, State.addressed_now, s.produce_frame k r]
@[simp] theorem State.talking_timer : (s.talking k r).timer = s.timer := by
  rw [State.talking, State.addressed_timer, s.produce_frame k r]
@[simp] theorem State.talking_lineOut : (s.talking k r).lineOut = s.lineOut := by
  rw [State.talking, State.addressed_lineOut, s.produce_frame k r]
@[simp] theorem State.talking_ingestIn : (s.talking k r).ingestIn = s.ingestIn := by
  rw [State.talking, State.addressed_ingestIn, s.produce_frame k r]
@[simp] theorem State.talking_begun : (s.talking k r).begun = s.begun := by
  rw [State.talking, State.addressed_begun, s.produce_frame k r]
@[simp] theorem State.talking_resetEntry : (s.talking k r).resetEntry = s.resetEntry := by
  rw [State.talking, State.addressed_resetEntry, s.produce_frame k r]
theorem State.talking_tx :
    (s.talking k r).tx = { (s.produce k r).tx with target := ClassMask.onehot k, reg := r } := rfl

end

/-- The payload is as long as `len` says, up to the buffer's 8 bytes (R16). -/
theorem State.length_payload {s : State} (h : s.tx.len ≤ 8) : s.payload.length = s.tx.len := by
  simpa [State.payload] using h

/-- A wait for an assertion on the timer of Tlt ends `d` ticks on, where the line first falls or the limit is reached
(R69, D24). -/
theorem took_tltWait (T d : Nat) {s : State} (hwf : s.cfg.wf = true) (hgaps : s.gaps = [])
    (htimer : s.timer = ⟨.coarse, s.now, true⟩) (hT : T ≤ 255) (hbefore : ∀ i < d, (s.advance i).line ≠ true)
    (hd : d ≤ T * s.cfg.coarseRatio) (hend : (s.advance d).line = true ∨ d = T * s.cfg.coarseRatio) :
    Took d s (pollUntil true T true s).1 ∧ (pollUntil true T true s).2 = d / s.cfg.coarseRatio := by
  have h := took_pollUntil true T true s d hgaps
  simp only [htimer, Config.rTicks_coarse, Nat.add_le_add_iff_left, Nat.add_left_cancel_iff,
    Nat.add_sub_cancel_left] at h
  exact h trivial (Nat.le_refl _) (Config.one_le_rTicks hwf .coarse) hT hbefore hd hend

/-- The wait from the origin of Tlt, on a line that falls `d` ticks after it, within the limit (R69, D24). -/
theorem took_tltWait_reached {T d : Nat} {s : State} {rest : List Bool} (hwf : s.cfg.wf = true) (hgaps : s.gaps = [])
    (hdrive : s.drive = false) (htimer : s.timer = ⟨.coarse, s.now, true⟩) (hT : T ≤ 255)
    (henv : s.env = List.replicate d false ++ rest) (hfall : rest.headD false = true)
    (hd : d < T * s.cfg.coarseRatio) :
    Took d s (pollUntil true T true s).1 ∧ (pollUntil true T true s).2 < T := by
  have hline : (s.advance d).line = true := by
    rw [State.line_advance, henv, List.drop_left' (by simp), hdrive, hfall, Bool.false_or]
  obtain ⟨htook, hcount⟩ := took_tltWait T d hwf hgaps htimer hT
    (fun i hi => State.line_advance_ne (lvl := true) hdrive henv hi) hd.le (.inl hline)
  refine ⟨htook, ?_⟩
  rw [hcount]
  exact Nat.div_lt_of_lt_mul (by rwa [Nat.mul_comm])

/-- On a quiet line the turnaround ends at `T_TLT` (R87, D24). -/
theorem took_turnaround {s : State} (hwf : s.cfg.wf = true) (hgaps : s.gaps = []) (hdrive : s.drive = false)
    (htimer : s.timer = ⟨.coarse, s.now, true⟩) (hquiet : s.quiet) :
    Took (s.cfg.timing.tTlt * s.cfg.coarseRatio) s (pollUntil true s.cfg.timing.tTlt true s).1 :=
  (took_tltWait _ _ hwf hgaps htimer (Config.tTlt_le hwf)
    (fun i _ => by rw [State.line_advance, hdrive, hquiet.headD_drop]; decide) (Nat.le_refl _) (.inr rfl)).1

/-- The turnaround and the frame after it, from the production on (R87). -/
def sendAfterTurnaround (s : State) : State × Err :=
  let w := (pollUntil true s.cfg.timing.tTlt true s).1
  sendFrame w.payload w

/-- On a quiet line the whole frame goes out, for every spacing. -/
theorem sendAfterTurnaround_of_quiet {s : State} (hdrive : s.drive = false) (hquiet : s.quiet) :
    Polled s (sendAfterTurnaround s).1 ∧ (sendAfterTurnaround s).2 = .none ∧
      (sendAfterTurnaround s).1.drive = false := by
  have hp := polled_pollUntil true s.cfg.timing.tTlt true s
  have hframe := sent_sendFrame (pollUntil true s.cfg.timing.tTlt true s).1.payload
    ((watched_pollUntil true s.cfg.timing.tTlt true s).drive.trans hdrive) (hp.quiet hquiet)
  exact ⟨hp.trans hframe.polled, hframe.err, hframe.released⟩

/-- At the reference spacing the frame's first fall comes `T_TLT` after the origin of Tlt (R87, D24). -/
theorem sendAfterTurnaround_timed {s : State} (hwf : s.cfg.wf = true) (hgaps : s.gaps = []) (hdrive : s.drive = false)
    (htimer : s.timer = ⟨.coarse, s.now, true⟩) (hquiet : s.quiet) :
    (sendAfterTurnaround s).1.now =
        s.now + s.cfg.timing.tTlt * s.cfg.coarseRatio + (frameBits s.payload).length * bitTime s.cfg.timing ∧
      (sendAfterTurnaround s).1.lineOut =
        sentEdges s.cfg.timing (frameBits s.payload) (s.now + s.cfg.timing.tTlt * s.cfg.coarseRatio) s.lineOut := by
  have hturn := took_turnaround hwf hgaps hdrive htimer hquiet
  have hwatch := watched_pollUntil true s.cfg.timing.tTlt true s
  unfold sendAfterTurnaround
  generalize (pollUntil true s.cfg.timing.tTlt true s).1 = w at *
  have hcfg := hturn.polled.cfg
  have hpayload : w.payload = s.payload := by rw [State.payload, State.payload, hturn.polled.tx]
  obtain ⟨htook, hedges⟩ := (sent_sendFrame w.payload (hwatch.drive.trans hdrive) (hturn.polled.quiet hquiet)).timed
    (hcfg ▸ hwf) hturn.gaps
  rw [hcfg, hpayload] at htook hedges
  rw [hturn.now, hwatch.lineOut] at hedges
  exact ⟨by simp only [hpayload, htook.now, hturn.now], by simp only [hpayload, hedges]⟩

/-- A Talk with data on a quiet bus waits the turnaround out, sends its frame and drains, for every spacing (R87). -/
theorem exec_talkOf_of_quiet {s : State} {a : BusAddr} {k : DevClass} (r : RegNum) (hdrive : s.drive = false)
    (hquiet : s.quiet) (hk : s.matchClass a = some k) (hlen : 1 ≤ (s.produce k r).tx.len) :
    exec (talkOf a r) s =
      .next (((sendAfterTurnaround (s.talking k r)).1.drainReg k r).endTx .talkOk) := by
  rw [← s.talking_drive k r] at hdrive
  rw [State.quiet, ← s.talking_env k r] at hquiet
  obtain ⟨hp, herr, -⟩ := sendAfterTurnaround_of_quiet hdrive hquiet
  have hlimit := limit_le_pollUntil_of_quiet (s.talking k r).cfg.timing.tTlt true hdrive hquiet
  have hreg : (sendAfterTurnaround (s.talking k r)).1.tx.reg = r := by rw [hp.tx]; rfl
  unfold sendAfterTurnaround at herr hreg ⊢
  rw [exec_talkOf_some r hk, talkPhase_addressed, if_neg (by omega)]
  simp only [if_neg (Nat.not_lt.mpr hlimit), talkSend, herr, hreg, if_true]

/-- Settles O31: the turnaround runs to `T_TLT`, and the frame after it is sent bit by bit. -/
theorem talkSendsFrame : Obligations.TalkSendsFrame := by
  intro s a k r hstart hgaps hquiet hk hlen hlen8
  obtain ⟨hwf, hreleased, htimer⟩ := hstart
  have hdrive : (s.talking k r).drive = false := (s.talking_drive k r).trans hreleased
  have hquiet' : (s.talking k r).quiet := by rwa [State.quiet, State.talking_env]
  obtain ⟨-, -, hsent⟩ := sendAfterTurnaround_of_quiet hdrive hquiet'
  have hpayload : (s.talking k r).payload = (s.produce k r).payload := rfl
  have htimed := sendAfterTurnaround_timed (s := s.talking k r)
  simp only [State.talking_cfg, State.talking_gaps, State.talking_timer, State.talking_now, State.talking_drive,
    State.talking_lineOut, hpayload, length_frameBits, State.length_payload hlen8] at htimed
  obtain ⟨hnow, hedges⟩ := htimed hwf hgaps hreleased htimer hquiet'
  refine ⟨_, exec_talkOf_of_quiet r hreleased hquiet hk hlen, rfl, rfl, rfl, ?_, ?_⟩
  · rw [State.endTx_lineOut_of_released (by simpa using hsent), State.drainReg_lineOut, hedges]
  · rw [State.endTx_now, State.drainReg_now, hnow, bitTime]

end Sys2Proof.Machine

/-!
SUPPORT. What a successful Talk drains (R103): INGEST, between production and drain, neither shortens the keyboard's
queue nor touches the mouse's reported deltas, so that the drain removes exactly what production recorded (R106, R109, R111).
-/

namespace Sys2Proof.Machine

/-! ## What INGEST leaves for the drain -/

/-- INGEST has only added to the queue, and left the reported deltas as they were. -/
structure RegFile.KeepsReport (r r' : RegFile) : Prop where
  size_le : r.kbd.size ≤ r'.kbd.size
  repDx : r'.mouse.repDx = r.mouse.repDx
  repDy : r'.mouse.repDy = r.mouse.repDy

theorem RegFile.KeepsReport.refl (r : RegFile) : r.KeepsReport r := ⟨Nat.le_refl _, rfl, rfl⟩

theorem RegFile.KeepsReport.trans {r r' r'' : RegFile} (h1 : r.KeepsReport r') (h2 : r'.KeepsReport r'') :
    r.KeepsReport r'' :=
  ⟨h1.size_le.trans h2.size_le, h2.repDx.trans h1.repDx, h2.repDy.trans h1.repDy⟩

@[simp] theorem Keyboard.append_size (k : Keyboard) (x : Byte) : (k.append x).size = k.size + 1 := rfl

theorem Keyboard.size_le_pushSingle (k : Keyboard) (x : Byte) : k.size ≤ (k.pushSingle x).1.size := by
  unfold Keyboard.pushSingle
  split
  · exact Nat.le_refl _
  · exact Nat.le_succ _

theorem Keyboard.size_le_pushPair (k : Keyboard) (a b : Byte) : k.size ≤ (k.pushPair a b).1.size := by
  have hpadded : k.size ≤ (if k.size % 2 = 1 then k.append filler else k).size := by
    split
    · exact Nat.le_succ _
    · exact Nat.le_refl _
  simp only [Keyboard.pushPair]
  generalize (if k.size % 2 = 1 then 3 else 2) = need
  split
  · exact Nat.le_refl _
  · simp only [Keyboard.append_size]
    omega

theorem RegFile.perform_keepsReport (c : Config) (op : IngestOp) (r : RegFile) :
    r.KeepsReport (r.perform c op).1 := by
  cases op with
  | kbdPushSingle x => exact ⟨r.kbd.size_le_pushSingle x, rfl, rfl⟩
  | kbdPushPair a b => exact ⟨r.kbd.size_le_pushPair a b, rfl, rfl⟩
  | mouseButtons b =>
    simp only [RegFile.perform]
    split
    · exact .refl r
    · exact ⟨Nat.le_refl _, rfl, rfl⟩
  | nop | arbR0Status | arbReadR2 => exact .refl r
  | kbdSetR2 | mouseMove | arbLoadR0 | arbWriteR2 => exact ⟨Nat.le_refl _, rfl, rfl⟩

theorem RegFile.ingest_keepsReport (c : Config) (op : IngestOp) (r : RegFile) : r.KeepsReport (r.ingest c op).1 := by
  unfold RegFile.ingest
  split
  · exact r.perform_keepsReport c op
  · split
    · exact r.perform_keepsReport c op
    · exact .refl r

theorem RegFile.runOps_keepsReport (c : Config) (ops : List IngestOp) (r : RegFile) :
    r.KeepsReport (RegFile.runOps c ops r) := by
  induction ops generalizing r with
  | nil => exact .refl r
  | cons op rest ih => exact (r.ingest_keepsReport c op).trans (ih _)

theorem RegFile.runOps_of_nil (c : Config) {ops : List IngestOp} (h : ops = []) (n : Nat) (r : RegFile) :
    RegFile.runOps c (ops.take n) r = r := by
  rw [h, List.take_nil]
  rfl

/-! ## What production records -/

/-- With `len` at least 1 the register has data (R113). -/
theorem not_noTalkData_of_len {s : State} {k : DevClass} {r : RegNum} (h : 1 ≤ (s.produce k r).tx.len) :
    ¬noTalkData s k r := fun hnone => by
  rw [State.produce_of_noTalkData hnone] at h
  exact Nat.not_succ_le_zero 0 h

theorem size_ne_zero_of_len {s : State} (h : 1 ≤ (s.produce .kbd 0b00#2).tx.len) : s.regs.kbd.size ≠ 0 :=
  fun h0 => not_noTalkData_of_len h (.inr (.inl ⟨rfl, rfl, h0⟩))

theorem pending_of_len {s : State} (h : 1 ≤ (s.produce .mouse 0b00#2).tx.len) : s.regs.mouse.pending = true := by
  by_contra hidle
  simp only [Mouse.pending_iff, not_or, not_not] at hidle
  exact not_noTalkData_of_len h (.inr (.inr (.inl ⟨rfl, rfl, hidle⟩)))

/-- A keyboard with entries gives the Talk two bytes and records how many of them are entries (R105). -/
theorem State.produce_kbd_r0 {s : State} (h : s.regs.kbd.size ≠ 0) :
    (s.produce .kbd 0b00#2).tx.drainKbd = min s.regs.kbd.size 2 ∧ (s.produce .kbd 0b00#2).tx.len = 2 := by
  have hproduce : s.produce .kbd 0b00#2 = _ := if_neg h
  rw [hproduce]
  exact ⟨rfl, rfl⟩

/-- A mouse with something to report gives the Talk two bytes and records its buttons (R108). -/
theorem State.produce_mouse_r0 {s : State} (h : s.regs.mouse.pending = true) :
    (s.produce .mouse 0b00#2).tx.drainButtons = s.regs.mouse.curButtons ∧ (s.produce .mouse 0b00#2).tx.len = 2 ∧
      (s.produce .mouse 0b00#2).regs = { s.regs with mouse := s.regs.mouse.report s.cfg } := by
  have hproduce : s.produce .mouse 0b00#2 = _ := if_pos h
  rw [hproduce]
  exact ⟨rfl, rfl, rfl⟩

/-! ## The drain -/

/-- The drain of at most two entries that are there (R126). -/
theorem Keyboard.drain_of_le {k : Keyboard} {n : Nat} (h : min n 2 ≤ k.size) :
    k.drain n = { k with head := k.head + BitVec.ofNat 4 (min n 2), size := k.size - min n 2 } :=
  if_neg (Nat.not_lt.mpr h)

/-- It removes the oldest entries and keeps the rest in order (R126). -/
theorem Keyboard.drain_entries {k : Keyboard} {n : Nat} (h : min n 2 ≤ k.size) :
    (k.drain n).entries = k.entries.drop (min n 2) := by
  rw [Keyboard.drain_of_le h]
  refine List.ext_getElem (by simp) fun i _ _ => ?_
  simp only [Keyboard.entries, List.getElem_drop, List.getElem_map, List.getElem_range, Keyboard.entry]
  congr 1
  rw [Fin.ext_iff, Keyboard.slot_val, Keyboard.slot_val, BitVec.toNat_add, BitVec.toNat_ofNat]
  omega

/-- The keyboard's drain by a record of `min n 2` entries that are still there (R106). -/
theorem RegFile.drainR0_kbd {c : Config} {tx : Txn} {f : RegFile} {n : Nat} (hrecord : tx.drainKbd = min n 2)
    (hle : min n 2 ≤ f.kbd.size) :
    (f.drainR0 c tx .kbd).kbd.entries = f.kbd.entries.drop (min n 2) ∧
      f.drainR0 c tx .kbd =
        { f with kbd := { f.kbd with
            head := f.kbd.head + BitVec.ofNat 4 (min n 2), size := f.kbd.size - min n 2 } } := by
  have hmin : min (min n 2) 2 = min n 2 := by omega
  rw [← hmin] at hle
  have hentries := Keyboard.drain_entries hle
  have hdrain := Keyboard.drain_of_le hle
  rw [hmin] at hentries hdrain
  rw [RegFile.drainR0, hrecord]
  exact ⟨hentries, by rw [hdrain]⟩

/-- Settles O32: the record made at production is what is drained from the registers that INGEST has left. -/
theorem talkDrainsByRecord : Obligations.TalkDrainsByRecord := by
  intro s a k r hstart hquiet hk hlen _
  have hdrive : (s.talking k r).drive = false := (s.talking_drive k r).trans hstart.released
  have hquiet' : (s.talking k r).quiet := by rwa [State.quiet, State.talking_env]
  obtain ⟨hp, -, -⟩ := sendAfterTurnaround_of_quiet hdrive hquiet'
  have hexec := exec_talkOf_of_quiet r hstart.released hquiet hk hlen
  generalize (sendAfterTurnaround (s.talking k r)).1 = u at *
  obtain ⟨n, hops, hregs⟩ := hp.ops
  simp only [State.talking_ingestIn, State.talking_cfg, State.talking_regs] at hops hregs
  refine ⟨_, n, hexec, rfl, by simp [hp.ids], by simp [hops], ?_⟩
  rintro after rfl
  have hkeeps := RegFile.runOps_keepsReport s.cfg (s.ingestIn.take n) (s.produce k r).regs
  rw [← hregs] at hkeeps ⊢
  have hcfg : u.cfg = s.cfg := hp.cfg.trans (s.talking_cfg k r)
  have htx := hp.tx
  rw [State.talking_tx] at htx
  simp only [State.endTx_regs, State.drainReg_regs]
  refine ⟨fun hr => if_neg hr, ?_, ?_, ?_⟩
  · rintro rfl rfl -
    obtain ⟨hdrain, -⟩ := State.produce_kbd_r0 (size_ne_zero_of_len hlen)
    have hrecord : u.tx.drainKbd = min s.regs.kbd.size 2 := by rw [htx]; exact hdrain
    have hsize := hkeeps.size_le
    rw [State.produce_regs, if_neg (by simp)] at hsize
    rw [if_pos rfl]
    exact RegFile.drainR0_kbd hrecord (by omega)
  · rintro rfl rfl
    obtain ⟨hbuttons, -, hreport⟩ := State.produce_mouse_r0 (pending_of_len hlen)
    have hrecord : u.tx.drainButtons = s.regs.mouse.curButtons := by rw [htx]; exact hbuttons
    have hdx := hkeeps.repDx
    have hdy := hkeeps.repDy
    rw [hreport] at hdx hdy
    simp only [if_true, RegFile.drainR0, Mouse.drain, hrecord, hcfg, hdx, hdy]
    rfl
  · rintro rfl rfl
    rfl

/-! ## Without ingest -/

/-- Settles O33: O32 with nothing ingested, on the keyboard's two bytes. -/
theorem keyboardTalkRemovesWhatWasSent : Obligations.KeyboardTalkRemovesWhatWasSent := by
  intro s a hstart hquiet hops hk hone hcap
  obtain ⟨-, hlen⟩ := State.produce_kbd_r0 (Nat.ne_of_gt hone)
  obtain ⟨t, n, hexec, houtcome, hids, -, hdrain⟩ :=
    talkDrainsByRecord s a .kbd 0b00#2 hstart hquiet hk (by omega) (by omega)
  obtain ⟨-, hkbd, -, -⟩ := hdrain _ rfl
  obtain ⟨hentries, hregs⟩ := hkbd rfl rfl hcap
  rw [RegFile.runOps_of_nil _ hops, State.produce_regs, if_neg (by simp)] at hentries hregs
  exact ⟨t, hexec, houtcome, hentries, by rw [hregs], by rw [hregs], by rw [hregs], by rw [hregs], hids⟩

/-- An accumulator less the clamped delta stays in its range: nothing saturates (R23, R109). -/
theorem sub_clamp_in_range {acc lo hi accMin accMax : Int} (hlo : lo ≤ 0) (hhi : 0 ≤ hi) (hmin : accMin ≤ 0)
    (hmax : 0 ≤ accMax) (hacc : accMin ≤ acc ∧ acc ≤ accMax) :
    min (max (acc - min (max acc lo) hi) accMin) accMax = acc - min (max acc lo) hi := by
  omega

/-- Settles O34: O32 with nothing ingested, where the ranges keep the subtraction exact. -/
theorem mouseTalkSubtractsWhatWasSent : Obligations.MouseTalkSubtractsWhatWasSent := by
  intro s a hstart hquiet hops hk hranges hmouse hdata
  obtain ⟨-, hlen, hreport⟩ := State.produce_mouse_r0 ((Mouse.pending_iff _).mpr hdata)
  obtain ⟨t, n, hexec, houtcome, hids, -, hdrain⟩ :=
    talkDrainsByRecord s a .mouse 0b00#2 hstart hquiet hk (by omega) (by omega)
  obtain ⟨-, -, hregs, -⟩ := hdrain _ rfl
  replace hregs := hregs rfl rfl
  rw [RegFile.runOps_of_nil _ hops, hreport] at hregs
  obtain ⟨hclampMin, hclampMax, haccMin, haccMax⟩ := hranges
  refine ⟨t, hexec, houtcome, ?_, ?_, by rw [hregs], by rw [hregs]; rfl, by rw [hregs], by rw [hregs], hids⟩
  · rw [hregs]
    exact sub_clamp_in_range hclampMin hclampMax haccMin haccMax hmouse.accX
  · rw [hregs]
    exact sub_clamp_in_range hclampMin hclampMax haccMin haccMax hmouse.accY

/-- Settles O35: O32 with nothing ingested; only register 0 has a drain. -/
theorem arbitraryAndStatusTalks : Obligations.ArbitraryAndStatusTalks := by
  intro s a k hstart hquiet hops hk
  have hstatus (r : RegNum) (hr : r ≠ 0b00#2) (hlen : (s.produce k r).tx.len = 2) :
      ∃ t, exec (talkOf a r) s = .next t ∧ t.outcome = .talkOk ∧ t.ids = s.ids ∧ t.regs = s.regs := by
    obtain ⟨t, n, hexec, houtcome, hids, -, hdrain⟩ :=
      talkDrainsByRecord s a k r hstart hquiet hk (by omega) (by omega)
    obtain ⟨hregs, -⟩ := hdrain _ rfl
    refine ⟨t, hexec, houtcome, hids, ?_⟩
    rw [hregs hr, RegFile.runOps_of_nil _ hops, State.produce_regs, if_neg (by simp [hr])]
  refine ⟨?_, ?_, hstatus 0b11#2 (by decide) rfl⟩
  · rintro rfl hready hone h8
    have hlen : (s.produce .arb 0b00#2).tx.len = s.regs.arb.r0len := by
      have hproduce : s.produce .arb 0b00#2 = _ := if_pos hready
      rw [hproduce]
    obtain ⟨t, n, hexec, houtcome, hids, -, hdrain⟩ :=
      talkDrainsByRecord s a .arb 0b00#2 hstart hquiet hk (by omega) (by omega)
    obtain ⟨-, -, -, hregs⟩ := hdrain _ rfl
    refine ⟨t, hexec, houtcome, hids, ?_⟩
    rw [hregs rfl rfl, RegFile.runOps_of_nil _ hops, State.produce_regs, if_neg (by simp)]
  · rintro (rfl | ⟨rfl, hset⟩)
    · exact hstatus 0b10#2 (by decide) rfl
    · have hproduce : s.produce .arb 0b10#2 = _ := if_pos hset
      exact hstatus 0b10#2 (by decide) (by rw [hproduce]; rfl)

end Sys2Proof.Machine

/-!
SUPPORT. A Talk on any line: the collision in the turnaround (R87, R145), and the frame of the Talk rows, for which
`TalkWrites` says what a Talk itself can write of the register file (R103).
-/

namespace Sys2Proof.Machine

/-! ## A collision in the turnaround -/

@[simp] theorem State.recordCollision_tx (k : DevClass) (s : State) : (s.recordCollision k).tx = s.tx := by
  unfold State.recordCollision; split <;> rfl
@[simp] theorem State.recordCollision_begun (k : DevClass) (s : State) : (s.recordCollision k).begun = s.begun := by
  unfold State.recordCollision; split <;> rfl
@[simp] theorem State.recordCollision_resetEntry (k : DevClass) (s : State) :
    (s.recordCollision k).resetEntry = s.resetEntry := by
  unfold State.recordCollision; split <;> rfl
@[simp] theorem State.recordCollision_drive (k : DevClass) (s : State) : (s.recordCollision k).drive = s.drive := by
  unfold State.recordCollision; split <;> rfl
@[simp] theorem State.recordCollision_lineOut (k : DevClass) (s : State) :
    (s.recordCollision k).lineOut = s.lineOut := by
  unfold State.recordCollision; split <;> rfl
@[simp] theorem State.recordCollision_now (k : DevClass) (s : State) : (s.recordCollision k).now = s.now := by
  unfold State.recordCollision; split <;> rfl

/-- Settles O36: the turnaround's wait ends at the fall, below its limit. -/
theorem turnaroundCollision : Obligations.TurnaroundCollision := by
  intro s a k r d rest hstart hgaps hk hlen hd henv
  obtain ⟨hwf, hreleased, htimer⟩ := hstart
  have hwait := took_tltWait_reached (T := s.cfg.timing.tTlt) (d := d) (s := s.talking k r) (rest := true :: rest)
  simp only [State.talking_cfg, State.talking_gaps, State.talking_drive, State.talking_timer, State.talking_now,
    State.talking_env] at hwait
  obtain ⟨htook, hcount⟩ := hwait hwf hgaps hreleased htimer (Config.tTlt_le hwf) henv rfl hd
  obtain ⟨hdrive, hout, -⟩ := watched_pollUntil true s.cfg.timing.tTlt true (s.talking k r)
  rw [exec_talkOf_some r hk, talkPhase_addressed, if_neg (by omega)]
  simp only [State.talking_cfg, if_pos hcount]
  generalize (pollUntil true s.cfg.timing.tTlt true (s.talking k r)).1 = u at *
  obtain ⟨n, hops, hregs⟩ := htook.polled.ops
  rw [State.talking_drive, hreleased] at hdrive
  refine ⟨_, rfl, aborted_raiseErr _ _, ?_, ?_, ⟨n, ?_, ?_⟩, ?_⟩
  · rw [State.raiseErr_lineOut_of_released (by simpa using hdrive)]
    simp [hout]
  · simp [htook.now]
  · simp [hops]
  · simp [hregs]
  · simp [State.recordCollision_ids, htook.polled.tx, htook.polled.ids, State.talking_tx]

/-! ## The frame of the Talk rows -/

/-- The three ends of a Talk, all of them engine events after production (R87). -/
theorem exec_talkOf_cases {s t : State} {a : BusAddr} {k : DevClass} {r : RegNum} (hk : s.matchClass a = some k)
    (h : exec (talkOf a r) s = .next t) :
    ∃ u, Polled (s.talking k r) u ∧
      (t = u.endTx .talkNoData ∨ (∃ e, t = (u.recordCollision k).raiseErr e) ∨
        t = (u.drainReg k r).endTx .talkOk) := by
  rw [exec_talkOf_some r hk] at h
  injection h with h
  subst h
  obtain ⟨u, hp, hu⟩ := talkPhase_cases k (s.addressed k r .talk)
  have hproduce : (s.addressed k r .talk).produce k (s.addressed k r .talk).tx.reg = s.talking k r :=
    s.produce_addressed k k r r .talk
  rw [hproduce] at hp
  have hreg : u.tx.reg = r := by rw [hp.tx]; rfl
  rw [hreg] at hu
  exact ⟨u, hp, hu.imp_right (Or.imp_left fun ⟨e, _, he⟩ => ⟨e, he⟩)⟩

/-- What a Talk of class `k` and register `r` can write of the register file beside INGEST: at most register 0's own
part, by production or drain (R103, R106, R108, R109, R111). -/
inductive TalkWrites (k : DevClass) (r : RegNum) (f : RegFile) : RegFile → Prop
  | nothing : TalkWrites k r f f
  | queue (n : Nat) (hk : k = .kbd) (hr : r = 0b00#2) : TalkWrites k r f { f with kbd := f.kbd.drain n }
  | mouse (m : Mouse) (hk : k = .mouse) (hr : r = 0b00#2) (hb : m.curButtons = f.mouse.curButtons) :
      TalkWrites k r f { f with mouse := m }
  | ready (hk : k = .arb) (hr : r = 0b00#2) : TalkWrites k r f { f with arb := { f.arb with r0ready := false } }

theorem talkWrites_produce (k : DevClass) (r : RegNum) (s : State) : TalkWrites k r s.regs (s.produce k r).regs := by
  rw [State.produce_regs]
  split
  · next h =>
    obtain ⟨hk, hr, -⟩ := h
    exact .mouse _ hk hr rfl
  · exact .nothing

theorem talkWrites_drain (k : DevClass) (c : Config) (tx : Txn) (s : State) :
    TalkWrites k 0b00#2 s.regs ((s.produce k 0b00#2).regs.drainR0 c tx k) := by
  rw [State.produce_regs]
  cases k with
  | kbd => rw [if_neg (by simp)]; exact .queue _ rfl rfl
  | mouse => split <;> exact .mouse _ rfl rfl rfl
  | arb => rw [if_neg (by simp)]; exact .ready rfl rfl

/-- Without ingest that is all a Talk writes of the register file. -/
theorem exec_talkOf_regs {s t : State} {a : BusAddr} {k : DevClass} {r : RegNum} (hk : s.matchClass a = some k)
    (h : exec (talkOf a r) s = .next t) (hops : s.ingestIn = []) : TalkWrites k r s.regs t.regs := by
  obtain ⟨u, hp, hu⟩ := exec_talkOf_cases hk h
  obtain ⟨n, -, hregs⟩ := hp.ops
  rw [RegFile.runOps_of_nil _ (by simpa using hops), State.talking_regs] at hregs
  have hproduced : TalkWrites k r s.regs u.regs := hregs ▸ talkWrites_produce k r s
  obtain rfl | ⟨e, rfl⟩ | rfl := hu
  · exact hproduced
  · rw [State.raiseErr_regs, State.recordCollision_regs]
    exact hproduced
  · rw [State.endTx_regs, State.drainReg_regs]
    split
    · next hr =>
      subst hr
      exact hregs ▸ talkWrites_drain k u.cfg u.tx s
    · exact hproduced

theorem Keyboard.drain_frame (n : Nat) (k : Keyboard) :
    (k.drain n).kq = k.kq ∧ (k.drain n).r2hi = k.r2hi ∧ (k.drain n).r2lo = k.r2lo := by
  simp only [Keyboard.drain]
  split <;> exact ⟨rfl, rfl, rfl⟩

/-- The registers of class `k` that a Talk may write leave every other register, and of the own ones the queue's bytes,
register 2, the current buttons and the arbitrary buffer. -/
theorem TalkWrites.frame {k : DevClass} {r : RegNum} {f g : RegFile} (h : TalkWrites k r f g) :
    (k ≠ .kbd → g.kbd = f.kbd) ∧ (k ≠ .mouse → g.mouse = f.mouse) ∧ (k ≠ .arb → g.arb = f.arb) ∧
      (r ≠ 0b00#2 → g = f) ∧ g.kbd.kq = f.kbd.kq ∧ g.kbd.r2hi = f.kbd.r2hi ∧ g.kbd.r2lo = f.kbd.r2lo ∧
      g.mouse.curButtons = f.mouse.curButtons ∧ g.arb.r0buf = f.arb.r0buf ∧ g.arb.r0len = f.arb.r0len ∧
      g.arb.r2val = f.arb.r2val ∧ g.arb.r2set = f.arb.r2set := by
  cases h with
  | nothing => simp
  | queue n hk hr =>
    obtain ⟨hkq, hhi, hlo⟩ := f.kbd.drain_frame n
    simp [hk, hr, hkq, hhi, hlo]
  | mouse m hk hr hb => simp [hk, hr, hb]
  | ready hk hr => simp [hk, hr]

/-- What a Talk leaves of the machine beside the register file: the transaction's command, the port, and every identity
but for its own class's collision flag. -/
structure TalkKeeps (k : DevClass) (r : RegNum) (s t : State) : Prop where
  cfg : t.cfg = s.cfg
  cmd : t.tx.cmd = s.tx.cmd
  target : t.tx.target = ClassMask.onehot k
  reg : t.tx.reg = r
  begun : t.begun = s.begun
  resetEntry : t.resetEntry = s.resetEntry
  identity : SameIdentity s t
  others : ∀ j, j ≠ k → t.ids.get j = s.ids.get j

section

variable {k : DevClass} {r : RegNum} {s u : State}

theorem ProducedFrom.cmd {s t : State} (h : ProducedFrom s t) : t.tx.cmd = s.tx.cmd := by rw [h]

theorem talkKeeps_of_polled (h : Polled (s.talking k r) u) :
    TalkKeeps k r s u where
  cfg := h.cfg.trans (s.talking_cfg k r)
  cmd := by rw [h.tx, State.talking_tx, (s.produce_frame k r).cmd]
  target := by rw [h.tx, State.talking_tx]
  reg := by rw [h.tx, State.talking_tx]
  begun := h.begun.trans (s.talking_begun k r)
  resetEntry := h.resetEntry.trans (s.talking_resetEntry k r)
  identity := .of_ids (h.ids.trans (s.talking_ids k r))
  others j _ := by rw [h.ids, s.talking_ids k r]

theorem recordCollision_ids_get_of_ne {j k : DevClass} (h : j ≠ k) (s : State) :
    (s.recordCollision k).ids.get j = s.ids.get j := by
  rw [State.recordCollision_ids]
  split <;> simp [h]

theorem TalkKeeps.of_same {t : State} (h : TalkKeeps k r s u) (hcfg : t.cfg = u.cfg) (htx : t.tx = u.tx)
    (hbegun : t.begun = u.begun) (hentry : t.resetEntry = u.resetEntry) (hsame : SameIdentity u t)
    (hothers : ∀ j, j ≠ k → t.ids.get j = u.ids.get j) : TalkKeeps k r s t :=
  ⟨hcfg.trans h.cfg, htx ▸ h.cmd, htx ▸ h.target, htx ▸ h.reg, hbegun.trans h.begun, hentry.trans h.resetEntry,
    h.identity.trans hsame, fun j hj => (hothers j hj).trans (h.others j hj)⟩

theorem TalkKeeps.recordCollision (h : TalkKeeps k r s u) : TalkKeeps k r s (u.recordCollision k) :=
  h.of_same (by simp) (by simp) (by simp) (by simp) (recordCollision_sameIdentity k u)
    fun _ hj => recordCollision_ids_get_of_ne hj u

theorem TalkKeeps.drainReg (h : TalkKeeps k r s u) : TalkKeeps k r s (u.drainReg k r) :=
  h.of_same (by simp) (by simp) (by simp) (by simp) (.of_ids (u.drainReg_ids k r)) fun _ _ => by simp

theorem TalkKeeps.endTx (h : TalkKeeps k r s u) (o : TxOutcome) :
    TalkKeeps k r s (u.endTx o) :=
  ⟨h.cfg, h.cmd, h.target, h.reg, h.begun, h.resetEntry, h.identity, h.others⟩

theorem TalkKeeps.raiseErr (h : TalkKeeps k r s u) (e : Err) :
    TalkKeeps k r s (u.raiseErr e) :=
  ⟨h.cfg, h.cmd, h.target, h.reg, h.begun, h.resetEntry, h.identity, h.others⟩

end

/-- Settles O38: production, engine events and each of the three ends keep the frame. -/
theorem talkFrame : Obligations.TalkFrame := by
  intro s t a k r hk hexec
  have hkeeps : TalkKeeps k r s t := by
    obtain ⟨u, hp, rfl | ⟨e, rfl⟩ | rfl⟩ := exec_talkOf_cases hk hexec
    · exact (talkKeeps_of_polled hp).endTx _
    · exact (talkKeeps_of_polled hp).recordCollision.raiseErr e
    · exact (talkKeeps_of_polled hp).drainReg.endTx _
  obtain ⟨hcfg, hcmd, htarget, hreg, hbegun, hentry, hidentity, hothers⟩ := hkeeps
  exact ⟨hcfg, hcmd, htarget, hreg, hbegun, hentry, hidentity, hothers,
    fun hops => (exec_talkOf_regs hk hexec hops).frame⟩

end Sys2Proof.Machine

/-!
SUPPORT. The Listen phase on any line: CORE never drives it (`Undriven`), and what a delivery writes (R92, R116, R118);
from these the frame of the Listen rows.
-/

namespace Sys2Proof.Machine

/-! ## CORE does not drive in a Listen -/

/-- `t` has `s`'s line driver and line history; the timer may have been started anew. -/
structure Undriven (s t : State) : Prop where
  drive : t.drive = s.drive
  lineOut : t.lineOut = s.lineOut

theorem Undriven.refl (s : State) : Undriven s s := ⟨rfl, rfl⟩

theorem Undriven.trans {s t u : State} (h1 : Undriven s t) (h2 : Undriven t u) : Undriven s u :=
  ⟨h2.drive.trans h1.drive, h2.lineOut.trans h1.lineOut⟩

theorem Watched.undriven {s t : State} (h : Watched s t) : Undriven s t := ⟨h.drive, h.lineOut⟩

theorem undriven_resyncFree (T : Nat) (s : State) : Undriven s (resyncFree T s).1 :=
  ⟨(watched_pollUntil false T false (s.timerStart .fine)).drive,
    (watched_pollUntil false T false (s.timerStart .fine)).lineOut⟩

theorem undriven_resyncAssert (T : Nat) (s : State) : Undriven s (resyncAssert T s).1 :=
  ⟨(watched_pollUntil true T false (s.timerStart .fine)).drive,
    (watched_pollUntil true T false (s.timerStart .fine)).lineOut⟩

theorem undriven_readByte (s : State) : Undriven s (readByte s).1 := ⟨readByte_drive s, readByte_lineOut s⟩

theorem undriven_receiveBytes (m n : Nat) (s : State) : Undriven s (receiveBytes m n s).1 := by
  induction m generalizing n s with
  | zero => exact .refl s
  | succ m ih =>
    simp only [receiveBytes]
    split
    · have hset (i : Nat) (b : Byte) (u : State) : Undriven u (u.setBuf i b) := ⟨rfl, rfl⟩
      exact ((undriven_readByte s).trans (hset n _ _)).trans (ih _ _)
    · exact undriven_readByte s

/-- An end of a transaction that finds the line released leaves its history (R77). -/
theorem Undriven.endTx {s u : State} (h : Undriven s u) (hdrive : s.drive = false) (o : TxOutcome) :
    (u.endTx o).lineOut = s.lineOut :=
  (State.endTx_lineOut_of_released (h.drive.trans hdrive) o).trans h.lineOut

theorem Undriven.raiseErr {s u : State} (h : Undriven s u) (hdrive : s.drive = false) (e : Err) :
    (u.raiseErr e).lineOut = s.lineOut :=
  (State.raiseErr_lineOut_of_released (h.drive.trans hdrive) e).trans h.lineOut

section

variable (k : DevClass) (r : RegNum) (v : Word16) (s : State)

/-- Only arbitrary register 2 takes a Listen's value (R115, R116, R117). -/
theorem State.listenReg_eq :
    s.listenReg k r v =
      { s with regs :=
          if k = .arb ∧ r = 0b10#2 then { s.regs with arb := s.regs.arb.writeR2 v } else s.regs } := by
  cases k with
  | kbd => rfl
  | mouse => rfl
  | arb => simp only [State.listenReg, true_and]; split <;> rfl

/-- A delivery runs the identity policy on the class addressed for register 3, writes arbitrary register 2 for register
2, and nothing else (R92, R116, R117, R118). -/
theorem State.deliver_eq :
    s.deliver k =
      { s with
        ids :=
          if s.tx.reg = 0b11#2 then
            s.ids.set k ((s.ids.get k).update s.cfg (s.cfg.acceptHandlers k) (s.bufAt 0) (s.bufAt 1))
          else s.ids
        regs :=
          if k = .arb ∧ s.tx.reg = 0b10#2 then
            { s.regs with arb := s.regs.arb.writeR2 (wordOf (s.bufAt 0) (s.bufAt 1)) }
          else s.regs } := by
  unfold State.deliver
  split
  · next h => simp [h, State.identityUpdate]
  · rw [State.listenReg_eq]

@[simp] theorem State.deliver_tx : (s.deliver k).tx = s.tx := by rw [State.deliver_eq]
@[simp] theorem State.deliver_drive : (s.deliver k).drive = s.drive := by rw [State.deliver_eq]
@[simp] theorem State.deliver_lineOut : (s.deliver k).lineOut = s.lineOut := by rw [State.deliver_eq]
@[simp] theorem State.deliver_begun : (s.deliver k).begun = s.begun := by rw [State.deliver_eq]
@[simp] theorem State.deliver_resetEntry : (s.deliver k).resetEntry = s.resetEntry := by rw [State.deliver_eq]
@[simp] theorem State.deliver_ingestIn : (s.deliver k).ingestIn = s.ingestIn := by rw [State.deliver_eq]

theorem State.deliver_ids :
    (s.deliver k).ids =
      if s.tx.reg = 0b11#2 then
        s.ids.set k ((s.ids.get k).update s.cfg (s.cfg.acceptHandlers k) (s.bufAt 0) (s.bufAt 1))
      else s.ids := by
  rw [State.deliver_eq]

theorem State.deliver_regs :
    (s.deliver k).regs =
      if k = .arb ∧ s.tx.reg = 0b10#2 then
        { s.regs with arb := s.regs.arb.writeR2 (wordOf (s.bufAt 0) (s.bufAt 1)) }
      else s.regs := by
  rw [State.deliver_eq]

end

theorem undriven_deliver (k : DevClass) (s : State) : Undriven s (s.deliver k) :=
  ⟨s.deliver_drive k, s.deliver_lineOut k⟩

theorem listenData_lineOut (k : DevClass) {s : State} (hdrive : s.drive = false) :
    (listenData k s).lineOut = s.lineOut := by
  have hreceive := undriven_receiveBytes txbufCap 0 s
  simp only [listenData]
  generalize receiveBytes txbufCap 0 s = r at hreceive
  have hlen : Undriven s (r.1.setLen r.2) := ⟨hreceive.drive, hreceive.lineOut⟩
  split
  · exact hlen.raiseErr hdrive _
  · exact (hlen.trans (undriven_deliver k _)).endTx hdrive _

/-- A Listen that starts with the line released leaves it so throughout (R92). -/
theorem listenPhase_lineOut (k : DevClass) {s : State} (hdrive : s.drive = false) :
    (listenPhase k s).lineOut = s.lineOut := by
  have hwait := (watched_pollUntil true s.cfg.timing.tListenStart true s).undriven
  simp only [listenPhase]
  split
  · exact hwait.raiseErr hdrive _
  · generalize (pollUntil true s.cfg.timing.tListenStart true s).1 = w at hwait
    have hfree := hwait.trans (undriven_resyncFree w.cfg.timing.tListenResync w)
    simp only [listenResync]
    split
    · exact hfree.raiseErr hdrive _
    · have hassert := hfree.trans (undriven_resyncAssert w.cfg.timing.tListenResync _)
      split
      · exact hassert.raiseErr hdrive _
      · exact (listenData_lineOut k (hassert.drive.trans hdrive)).trans hassert.lineOut

/-! ## The frame of the Listen rows -/

theorem exec_listenOf_some {s : State} {a : BusAddr} {k : DevClass} (r : RegNum) (hk : s.matchClass a = some k) :
    exec (listenOf a r) s = .next (listenPhase k (s.addressed k r .listen)) := by
  have hexec : exec (listenOf a r) s = .next (s.listen a r) := by
    obtain rfl | rfl | rfl | rfl := twoBitField_cases r <;> rfl
  rw [hexec, State.listen, State.command_some _ hk]
  rfl

/-- What a Listen leaves of the machine up to its end: everything but the buffer, `len`, and the registers that INGEST
writes. -/
structure ListenKeeps (k : DevClass) (r : RegNum) (s u : State) : Prop where
  cfg : u.cfg = s.cfg
  cmd : u.tx.cmd = s.tx.cmd
  target : u.tx.target = ClassMask.onehot k
  reg : u.tx.reg = r
  drainKbd : u.tx.drainKbd = s.tx.drainKbd
  drainButtons : u.tx.drainButtons = s.tx.drainButtons
  begun : u.begun = s.begun
  resetEntry : u.resetEntry = s.resetEntry
  devices : DevicesLeftToIngest s u

theorem listenKeeps_of_polled {k : DevClass} {r : RegNum} {s u : State} {buf : Vector Byte 8} {len : Nat}
    (h : Polled ((s.addressed k r .listen).withData buf len) u) : ListenKeeps k r s u where
  cfg := h.cfg
  cmd := by rw [h.tx]; rfl
  target := by rw [h.tx]; rfl
  reg := by rw [h.tx]; rfl
  drainKbd := by rw [h.tx]; rfl
  drainButtons := by rw [h.tx]; rfl
  begun := h.begun
  resetEntry := h.resetEntry
  devices := h.devices

/-- The two ends of a Listen: an abort, or the delivery (R92). -/
theorem exec_listenOf_cases {s t : State} {a : BusAddr} {k : DevClass} {r : RegNum} (hk : s.matchClass a = some k)
    (h : exec (listenOf a r) s = .next t) :
    ∃ u, ListenKeeps k r s u ∧ ((∃ e, t = u.raiseErr e) ∨ t = (u.deliver k).endTx .listenOk) := by
  rw [exec_listenOf_some r hk] at h
  injection h with h
  subst h
  obtain ⟨buf, len, u, hp, -, hu⟩ := listenPhase_cases k (s.addressed k r .listen)
  exact ⟨u, listenKeeps_of_polled hp, hu⟩

theorem exec_listenOf_lineOut {s t : State} {a : BusAddr} {k : DevClass} {r : RegNum} (hk : s.matchClass a = some k)
    (h : exec (listenOf a r) s = .next t) (hdrive : s.drive = false) : t.lineOut = s.lineOut := by
  rw [exec_listenOf_some r hk] at h
  injection h with h
  subst h
  exact listenPhase_lineOut k hdrive

/-- Without ingest, what a delivery leaves of the register file: all but arbitrary register 2 (R116). -/
theorem State.deliver_regs_frame (k : DevClass) (s : State) :
    (s.deliver k).regs.kbd = s.regs.kbd ∧ (s.deliver k).regs.mouse = s.regs.mouse ∧
      (s.deliver k).regs.arb.r0buf = s.regs.arb.r0buf ∧ (s.deliver k).regs.arb.r0len = s.regs.arb.r0len ∧
      (s.deliver k).regs.arb.r0ready = s.regs.arb.r0ready := by
  rw [State.deliver_regs]
  split <;> exact ⟨rfl, rfl, rfl, rfl, rfl⟩

theorem ingestedOnly.regs_of_nil {s t : State} (h : ingestedOnly s t s.regs) (hops : s.ingestIn = []) :
    t.regs = s.regs := by
  obtain ⟨n, -, hregs⟩ := h
  rw [hregs, RegFile.runOps_of_nil _ hops]

/-- Settles O42: the reception keeps everything but the buffer, and a delivery writes its own register alone. -/
theorem listenFrame : Obligations.ListenFrame := by
  intro s t a k r hdrive hk hexec
  have hout := exec_listenOf_lineOut hk hexec hdrive
  obtain ⟨u, ⟨hcfg, hcmd, htarget, hreg, hdrain, hbuttons, hbegun, hentry, hids, hops⟩, ⟨e, rfl⟩ | rfl⟩ :=
    exec_listenOf_cases hk hexec
  · refine ⟨hcfg, rfl, hout, hcmd, htarget, hreg, hdrain, hbuttons, hbegun, hentry, fun _ => ⟨hids, hops⟩,
      fun _ => hids, fun j _ => by rw [State.raiseErr_ids, hids], fun _ => hops, fun hnil => ?_⟩
    rw [State.raiseErr_regs, hops.regs_of_nil hnil]
    exact ⟨rfl, rfl, rfl, rfl, rfl⟩
  · have htx : ((u.deliver k).endTx .listenOk).tx = u.tx := u.deliver_tx k
    rw [htx]
    refine ⟨(u.deliver_cfg k).trans hcfg, rfl, hout, hcmd, htarget, hreg, hdrain, hbuttons,
      (u.deliver_begun k).trans hbegun, (u.deliver_resetEntry k).trans hentry, fun hnot => absurd rfl hnot,
      fun hr => (u.deliver_ids_of_ne k (hreg ▸ hr)).trans hids, fun j hj => ?_, fun hr => ?_, fun hnil => ?_⟩
    · rw [State.endTx_ids, State.deliver_ids]
      split <;> simp [hids, hj]
    · rw [← hreg] at hr
      simpa [ingestedOnly, State.deliver_regs, hr] using hops
    · rw [← hops.regs_of_nil hnil]
      exact u.deliver_regs_frame k

end Sys2Proof.Machine

/-!
SUPPORT. The start of the Listen phase on a given waveform: the start bit in its windows, or out of them, where the
phase aborts (R69, R72, R92).
-/

namespace Sys2Proof

/-! ## Limits of the waits (W1, W7) -/

theorem Config.tListenStart_le {c : Config} (h : c.wf = true) : c.timing.tListenStart ≤ 255 :=
  (Config.field_bounds h (f := (.coarse, c.timing.tListenStart)) (by simp [Timing.fields])).2

theorem Config.tListenResync_le {c : Config} (h : c.wf = true) : c.timing.tListenResync ≤ 255 :=
  (Config.field_bounds h (f := (.fine, c.timing.tListenResync)) (by simp [Timing.fields])).2

/-- W7 of one field, in fine ticks: the counter does not wrap before a poll that comes `POLL_GAP` after the limit. -/
theorem Config.no_wrap {c : Config} (h : c.wf = true) {f : Res × Nat} (hf : f ∈ c.timing.fields) :
    f.2 * c.rTicks f.1 + c.pollGap ≤ 256 * c.rTicks f.1 := by
  have h7 : c.w7 = true := by
    simp only [Config.wf, Bool.and_eq_true] at h
    obtain ⟨⟨⟨-, h7⟩, -⟩, -⟩ := h
    exact h7
  exact Machine.ticks_of_w7 (Config.one_le_rTicks h f.1) (Config.field_bounds h hf).1 (c.w7_iff.mp h7 f hf)

end Sys2Proof

namespace Sys2Proof.Machine

/-! ## No timely start bit -/

/-- The start bit's wait reached its limit (R92). -/
theorem listenPhase_start_late (k : DevClass) {s : State}
    (h : s.cfg.timing.tListenStart ≤ (pollUntil true s.cfg.timing.tListenStart true s).2) :
    listenPhase k s = (pollUntil true s.cfg.timing.tListenStart true s).1.raiseErr .listenStart := by
  simp only [listenPhase, if_pos h]

/-- From the origin of Tlt, a wait on a line that first falls at its limit or later ends by the limit, for every
spacing: the fall at the limit itself is too late (R69). -/
theorem limit_le_pollUntil_of_late {T g : Nat} {s : State} {rest : List Bool} (hwf : s.cfg.wf = true)
    (hdrive : s.drive = false) (htimer : s.timer = ⟨.coarse, s.now, true⟩) (hslack : s.slack ≤ s.cfg.pollGap)
    (hw : T * s.cfg.coarseRatio + s.cfg.pollGap ≤ 256 * s.cfg.coarseRatio) (hg : T * s.cfg.coarseRatio ≤ g)
    (henv : s.env = List.replicate g false ++ rest) : T ≤ (pollUntil true T true s).2 := by
  have hr : 1 ≤ s.cfg.coarseRatio := Config.one_le_rTicks hwf .coarse
  have hcount := pollUntil_unwrapped true T true s ⟨by rw [htimer], by rw [htimer], hslack⟩ (Config.ratio_bounds hwf).2
  simp only [htimer, State.wrapDue, Config.rTicks_coarse] at hcount
  obtain ⟨hcount, -⟩ := hcount hr hw (Nat.le_add_right ..)
  have hp := polled_pollUntil true T true s
  have hdrive' := (watched_pollUntil true T true s).drive
  by_contra hearly
  rw [Nat.not_le] at hearly
  have hline := pollUntil_reached true T true s hearly
  rw [hcount, Nat.div_lt_iff_lt_mul hr] at hearly
  generalize (pollUntil true T true s).1 = w at *
  have hwave : w.line = (s.advance (w.now - s.now)).line := by
    rw [State.line_advance, ← hp.env, State.line, State.envNow, hdrive']
  exact State.line_advance_ne (lvl := true) hdrive henv (Nat.lt_of_lt_of_le hearly hg) (hwave ▸ hline)

/-! ## The start bit -/

theorem headD_replicate_append {n : Nat} (h : 1 ≤ n) (b : Bool) (rest : List Bool) :
    (List.replicate n b ++ rest).headD false = b := by
  obtain ⟨m, rfl⟩ := Nat.exists_eq_add_of_le' h
  rfl

/-- A cell with a low begins with a fall (R49). -/
theorem headD_cellWave_append {c : Nat × Nat} (h : 1 ≤ c.1) (rest : List Bool) :
    (cellWave c ++ rest).headD false = true := by
  rw [cellWave, List.append_assoc, headD_replicate_append h]

/-- `u` follows `s` by `d` ticks at the reference spacing, with CORE's driver released and the waveform `rest` to
come. -/
structure Heard (d : Nat) (rest : List Bool) (s u : State) : Prop where
  took : Took d s u
  released : u.drive = false
  env : u.env = rest

theorem Heard.trans {d e : Nat} {rest rest' : List Bool} {s t u : State} (h1 : Heard d rest s t)
    (h2 : Heard e rest' t u) : Heard (d + e) rest' s u :=
  ⟨h1.took.trans h2.took, h2.released, h2.env⟩

theorem Heard.cfg {d : Nat} {rest : List Bool} {s u : State} (h : Heard d rest s u) : u.cfg = s.cfg :=
  h.took.polled.cfg

/-- What comes after `d` ticks of a constant level. -/
theorem Took.heard {d : Nat} {b : Bool} {rest : List Bool} {s u : State} (h : Took d s u) (hdrive : u.drive = false)
    (henv : s.env = List.replicate d b ++ rest) : Heard d rest s u :=
  ⟨h, hdrive, by rw [h.env, henv, List.drop_left' (by simp)]⟩

/-- A start bit that falls in time takes the Listen to its resync (R92). -/
theorem listenPhase_of_start (k : DevClass) {s : State} {g : Nat} {rest : List Bool} (hwf : s.cfg.wf = true)
    (hgaps : s.gaps = []) (hdrive : s.drive = false) (htimer : s.timer = ⟨.coarse, s.now, true⟩)
    (henv : s.env = List.replicate g false ++ rest) (hfall : rest.headD false = true)
    (hg : g < s.cfg.timing.tListenStart * s.cfg.coarseRatio) :
    ∃ u, Heard g rest s u ∧ listenPhase k s = listenResync k u := by
  obtain ⟨htook, hcount⟩ := took_tltWait_reached hwf hgaps hdrive htimer (Config.tListenStart_le hwf) henv hfall hg
  have hdrive' := (watched_pollUntil true s.cfg.timing.tListenStart true s).drive.trans hdrive
  exact ⟨_, htook.heard hdrive' henv, by simp only [listenPhase, if_neg (Nat.not_le.mpr hcount)]⟩

section Resync

variable (k : DevClass) {s : State} {ls : Nat} {rest : List Bool} (hwf : s.cfg.wf = true) (hgaps : s.gaps = [])
  (hdrive : s.drive = false) (henv : s.env = List.replicate ls true ++ rest)

include hwf hgaps hdrive henv

/-- The start bit's low is too long (R72). -/
theorem listenResync_low_long (hls : s.cfg.timing.tListenResync ≤ ls) :
    ∃ u : State, listenResync k s = u.raiseErr .listenResync := by
  obtain ⟨-, hcount⟩ := took_wait_expired (lvl := false) s.cfg.timing.tListenResync false .fine hgaps hdrive henv
    (Nat.le_refl 1) (Config.tListenResync_le hwf) (by simpa using hls)
  exact ⟨_, if_pos hcount.ge⟩

/-- After a start bit's low in its window, the wait for the end of its high follows (R72). -/
theorem listenResync_low (hfree : rest.headD false = false) (hls : ls < s.cfg.timing.tListenResync) :
    ∃ u, Heard ls rest s u ∧
      listenResync k s =
        (let g := resyncAssert s.cfg.timing.tListenResync u
         if s.cfg.timing.tListenResync ≤ g.2 then g.1.raiseErr .listenResync else listenData k g.1) := by
  obtain ⟨htook, hcount⟩ := took_wait_reached (lvl := false) s.cfg.timing.tListenResync false .fine hgaps hdrive henv
    (Nat.le_refl 1) (Config.tListenResync_le hwf) hfree (by simpa using hls.le)
  rw [Config.rTicks_fine, Nat.div_one] at hcount
  have hdrive' := (undriven_resyncFree s.cfg.timing.tListenResync s).drive.trans hdrive
  exact ⟨_, htook.heard hdrive' henv, if_neg (Nat.not_le.mpr (hcount.trans_lt hls))⟩

end Resync

/-- The start bit's high is too long (R72). -/
theorem listenResync_high_long (k : DevClass) {s : State} {ls hs : Nat} {rest : List Bool} (hwf : s.cfg.wf = true)
    (hgaps : s.gaps = []) (hdrive : s.drive = false) (henv : s.env = cellWave (ls, hs) ++ rest)
    (hls : ls < s.cfg.timing.tListenResync) (hone : 1 ≤ hs) (hhs : s.cfg.timing.tListenResync ≤ hs) :
    ∃ u : State, listenResync k s = u.raiseErr .listenResync := by
  rw [cellWave, List.append_assoc] at henv
  obtain ⟨u, hlow, hresync⟩ := listenResync_low k hwf hgaps hdrive henv (headD_replicate_append hone ..) hls
  obtain ⟨-, hcount⟩ := took_wait_expired (lvl := true) s.cfg.timing.tListenResync false .fine hlow.took.gaps
    hlow.released hlow.env (Nat.le_refl 1) (Config.tListenResync_le hwf) (by simpa using hhs)
  exact ⟨_, hresync.trans (if_pos hcount.ge)⟩

/-- A start bit in its windows takes the Listen to the data, at the fall after it (R72, R92). -/
theorem listenResync_of_startBit (k : DevClass) {s : State} {ls hs : Nat} {rest : List Bool} (hwf : s.cfg.wf = true)
    (hgaps : s.gaps = []) (hdrive : s.drive = false) (henv : s.env = cellWave (ls, hs) ++ rest)
    (hls : ls < s.cfg.timing.tListenResync) (hone : 1 ≤ hs) (hhs : hs < s.cfg.timing.tListenResync)
    (hfall : rest.headD false = true) :
    ∃ u, Heard (ls + hs) rest s u ∧ listenResync k s = listenData k u := by
  rw [cellWave, List.append_assoc] at henv
  obtain ⟨u, hlow, hresync⟩ := listenResync_low k hwf hgaps hdrive henv (headD_replicate_append hone ..) hls
  obtain ⟨htook, hcount⟩ := took_wait_reached (lvl := true) s.cfg.timing.tListenResync false .fine hlow.took.gaps
    hlow.released hlow.env (Nat.le_refl 1) (Config.tListenResync_le hwf) hfall (by simpa using hhs.le)
  rw [Config.rTicks_fine, Nat.div_one] at hcount
  have hdrive' := (undriven_resyncAssert s.cfg.timing.tListenResync u).drive.trans hlow.released
  exact ⟨_, hlow.trans (htook.heard hdrive' hlow.env),
    hresync.trans (if_neg (Nat.not_le.mpr (hcount.trans_lt hhs)))⟩

/-! ## A Listen that aborts -/

/-- An aborted Listen writes no device state but by INGEST and drives nothing (R86, R92). -/
theorem listen_aborted {s t : State} {a : BusAddr} {k : DevClass} {r : RegNum} {e : Err} (hdrive : s.drive = false)
    (hk : s.matchClass a = some k) (hexec : exec (listenOf a r) s = .next t) (ht : Aborted e t) :
    t.ids = s.ids ∧ ingestedOnly s t s.regs ∧ t.lineOut = s.lineOut := by
  have hout := exec_listenOf_lineOut hk hexec hdrive
  obtain ⟨u, hkeeps, ⟨e', rfl⟩ | rfl⟩ := exec_listenOf_cases hk hexec
  · obtain ⟨hids, hops⟩ := hkeeps.devices
    exact ⟨hids, hops, hout⟩
  · exact TxOutcome.noConfusion ht.outcome

/-- Settles O41: on a quiet bus and with a late fall the first wait reaches its limit; a start bit too long is met by
one of the two resync waits. -/
theorem listenWindowErrors : Obligations.ListenWindowErrors := by
  intro s a k r hstart hk
  obtain ⟨hwf, hreleased, htimer⟩ := hstart
  have haborted {t : State} {e : Err} (ht : listenPhase k (s.addressed k r .listen) = t) (he : Aborted e t) :
      exec (listenOf a r) s = .next t ∧ Aborted e t ∧ t.ids = s.ids ∧ ingestedOnly s t s.regs ∧
        t.lineOut = s.lineOut := by
    have hexec : exec (listenOf a r) s = .next t := (exec_listenOf_some r hk).trans (congrArg _ ht)
    exact ⟨hexec, he, listen_aborted hreleased hk hexec he⟩
  refine ⟨fun hquiet => ?_, fun hslack g rest hg henv => ?_, fun hgaps g ls hs rest hg hone hone' henv hlong => ?_⟩
  · have hlimit := limit_le_pollUntil_of_quiet (s := s.addressed k r .listen) s.cfg.timing.tListenStart true hreleased
      hquiet
    exact ⟨_, haborted (listenPhase_start_late k hlimit) (aborted_raiseErr _ _)⟩
  · have hlimit := limit_le_pollUntil_of_late (T := s.cfg.timing.tListenStart) (s := s.addressed k r .listen) hwf
      hreleased htimer hslack
      (Config.no_wrap hwf (f := (.coarse, s.cfg.timing.tListenStart)) (by simp [Timing.fields])) hg henv
    obtain ⟨hexec, he, hids, hops, hout⟩ :=
      haborted (listenPhase_start_late k hlimit) (aborted_raiseErr .listenStart _)
    refine ⟨_, hexec, he, hids, hops, hout, fun hgaps => ?_⟩
    exact (took_tltWait _ _ (s := s.addressed k r .listen) hwf hgaps htimer (Config.tListenStart_le hwf)
      (fun i hi => State.line_advance_ne (lvl := true) hreleased henv (Nat.lt_of_lt_of_le hi hg)) (Nat.le_refl _)
      (.inr rfl)).1.now
  · rw [List.append_assoc] at henv
    obtain ⟨u, hheard, hphase⟩ := listenPhase_of_start k (s := s.addressed k r .listen) hwf hgaps hreleased htimer henv
      (headD_cellWave_append hone rest) hg
    have hcfg : u.cfg = s.cfg := hheard.cfg
    have hwf' : u.cfg.wf = true := hcfg ▸ hwf
    rw [← hcfg] at hlong
    obtain ⟨w, hw⟩ : ∃ w : State, listenResync k u = w.raiseErr .listenResync := by
      by_cases hlow : u.cfg.timing.tListenResync ≤ ls
      · have henv' := hheard.env
        rw [cellWave, List.append_assoc] at henv'
        exact listenResync_low_long k hwf' hheard.took.gaps hheard.released henv' hlow
      · exact listenResync_high_long k hwf' hheard.took.gaps hheard.released hheard.env (Nat.lt_of_not_le hlow) hone'
          (hlong.resolve_left hlow)
    exact ⟨_, haborted (hphase.trans hw) (aborted_raiseErr _ _)⟩

end Sys2Proof.Machine

/-!
SUPPORT. A Listen's data at the reference spacing: bytes in legal cells are read one by one into the buffer (R75, R92)
until the stop bit's long high ends the reception, and the first two of them are what is delivered (R59).
-/

namespace Sys2Proof.Machine

/-! ## The received bytes in the buffer -/

/-- The buffer `buf` with the bytes `bs` put in from entry `n` on (R92). -/
def storeBytes : Nat → List Byte → Vector Byte 8 → Vector Byte 8
  | _, [], buf => buf
  | n, b :: bs, buf => storeBytes (n + 1) bs (buf.setIfInBounds n b)

/-- Entries before the first one written stay. -/
theorem storeBytes_getD_of_lt {i n : Nat} (h : i < n) (bs : List Byte) (buf : Vector Byte 8) :
    (storeBytes n bs buf).toList.getD i 0x00#8 = buf.toList.getD i 0x00#8 := by
  induction bs generalizing n buf with
  | nil => rfl
  | cons b bs ih =>
    rw [storeBytes, ih (Nat.lt_succ_of_lt h)]
    simp [List.getD, h.ne']

/-- The first two bytes received are the buffer's first two (R59). -/
theorem storeBytes_first (b0 b1 : Byte) (bs : List Byte) (buf : Vector Byte 8) :
    (storeBytes 0 (b0 :: b1 :: bs) buf).toList.getD 0 0x00#8 = b0 ∧
      (storeBytes 0 (b0 :: b1 :: bs) buf).toList.getD 1 0x00#8 = b1 := by
  constructor
  · rw [storeBytes, storeBytes, storeBytes_getD_of_lt (by decide)]
    simp [List.getD]
  · rw [storeBytes, storeBytes, storeBytes_getD_of_lt (by decide)]
    simp [List.getD]

/-! ## Reception, byte by byte -/

theorem cellsWave_append (cs ds : List (Nat × Nat)) : cellsWave (cs ++ ds) = cellsWave cs ++ cellsWave ds :=
  List.flatMap_append

/-- Cells that carry two runs of bits are two runs of cells. -/
theorem cellsCarry_append {t : Timing} {cs : List (Nat × Nat)} {xs ys : List Bool}
    (h : cellsCarry t cs (xs ++ ys) = true) :
    ∃ cs1 cs2, cs = cs1 ++ cs2 ∧ cellsCarry t cs1 xs = true ∧ cellsCarry t cs2 ys = true := by
  induction xs generalizing cs with
  | nil => exact ⟨[], cs, rfl, rfl, h⟩
  | cons x xs ih =>
    cases cs with
    | nil => simp [cellsCarry_nil_iff] at h
    | cons c cs =>
      obtain ⟨b, bs, hbs, hc, hcs⟩ := (cellsCarry_cons_iff ..).mp h
      obtain ⟨rfl, rfl⟩ := List.cons_eq_cons.mp hbs
      obtain ⟨cs1, cs2, rfl, h1, h2⟩ := ih hcs
      exact ⟨c :: cs1, cs2, rfl, (cellsCarry_cons_iff ..).mpr ⟨x, xs, rfl, hc, h1⟩, h2⟩

/-- A byte in legal cells is read up to the fall after it (R75). -/
theorem readByte_cells {s : State} {v : Byte} {cells : List (Nat × Nat)} {tail : List Bool} (hwf : s.cfg.wf = true)
    (hgaps : s.gaps = []) (hdrive : s.drive = false) (hcarry : cellsCarry s.cfg.timing cells (bitsMsb v) = true)
    (henv : s.env = cellsWave cells ++ tail) (hfall : tail.headD false = true) :
    ∃ u, Heard (cellsWave cells).length tail s u ∧ readByte s = (u, v, .none) := by
  obtain ⟨u, htook, hreleased, henv', hread⟩ := readBits_cells hwf hgaps hdrive hcarry henv (.inr hfall) 0 0x00#8
  have hlen : cells.length = 8 := length_of_cellsCarry hcarry
  rw [bitsInto_bitsMsb, hlen] at hread
  exact ⟨u, ⟨htook, hreleased, henv'⟩, hread⟩

/-- The stop bit ends the reception by its long high, or comes after the last byte there is room for (R92). -/
theorem receiveBytes_stop {s : State} {sl : Nat} {rest : List Bool} (hwf : s.cfg.wf = true) (hgaps : s.gaps = [])
    (hdrive : s.drive = false) (hsl : s.cfg.timing.tBitLowMin ≤ sl ∧ sl < s.cfg.timing.tBitLowMax)
    (henv : s.env = cellWave (sl, s.cfg.timing.tBitHighMax) ++ rest) (m n : Nat) :
    ∃ u, Polled s u ∧ receiveBytes m n s = (u, n) := by
  cases m with
  | zero => exact ⟨s, .refl s, rfl⟩
  | succ m =>
    have hhigh : 1 ≤ s.cfg.timing.tBitHighMax :=
      (Config.field_bounds hwf (f := (.fine, s.cfg.timing.tBitHighMax)) (by simp [Timing.fields])).1
    rw [cellWave, List.append_assoc] at henv
    obtain ⟨t, w, htook, hread⟩ := readBits_high_long hwf hgaps hdrive henv (headD_replicate_append hhigh ..) hsl rfl
      (Nat.le_refl _) 7 0x00#8
    have hbyte : readByte s = (t, w, .rbHighLong) := hread
    refine ⟨t, htook.polled, ?_⟩
    simp only [receiveBytes, hbyte, reduceCtorEq, if_false]

/-- Bytes in legal cells, and the stop bit after them, are received into the buffer from entry `n` on (R92). -/
theorem receiveBytes_cells {bs : List Byte} {cells : List (Nat × Nat)} {s : State} {sl : Nat} {rest : List Bool}
    (hwf : s.cfg.wf = true) (hgaps : s.gaps = []) (hdrive : s.drive = false)
    (hcarry : cellsCarry s.cfg.timing cells (bs.flatMap bitsMsb) = true)
    (hsl : s.cfg.timing.tBitLowMin ≤ sl ∧ sl < s.cfg.timing.tBitLowMax)
    (henv : s.env = cellsWave cells ++ (cellWave (sl, s.cfg.timing.tBitHighMax) ++ rest)) {m : Nat} (n : Nat)
    (hm : bs.length ≤ m) :
    ∃ u, Polled (s.withData (storeBytes n bs s.tx.buf) s.tx.len) u ∧ receiveBytes m n s = (u, n + bs.length) := by
  induction bs generalizing s cells m n with
  | nil =>
    obtain rfl : cells = [] := List.length_eq_zero_iff.mp (length_of_cellsCarry hcarry)
    exact receiveBytes_stop hwf hgaps hdrive hsl henv m n
  | cons b bs ih =>
    obtain ⟨m, rfl⟩ := Nat.exists_eq_add_of_le' (Nat.le_trans (Nat.succ_pos _) hm)
    rw [List.flatMap_cons] at hcarry
    obtain ⟨cs1, cs2, rfl, hbyte, hrest⟩ := cellsCarry_append hcarry
    rw [cellsWave_append, List.append_assoc] at henv
    have hlow := Config.one_le_tBitLowMin hwf
    have hfall := headD_cellsWave_append hlow hrest
      (headD_cellWave_append (c := (sl, s.cfg.timing.tBitHighMax)) (hlow.trans hsl.1) rest)
    obtain ⟨u, hheard, hread⟩ := readByte_cells hwf hgaps hdrive hbyte henv hfall
    have hcfg : (u.setBuf n b).cfg = s.cfg := hheard.cfg
    obtain ⟨w, hp, hreceive⟩ := ih (s := u.setBuf n b) (hcfg ▸ hwf) hheard.took.gaps hheard.released
      (hcfg ▸ hrest) (hcfg ▸ hsl) (hcfg ▸ hheard.env) (n + 1) (Nat.le_of_succ_le_succ hm)
    refine ⟨w, ?_, ?_⟩
    · have hfirst := hheard.took.polled.withData (storeBytes n (b :: bs) s.tx.buf) s.tx.len
      have hsame : (u.setBuf n b).withData (storeBytes (n + 1) bs (u.setBuf n b).tx.buf) (u.setBuf n b).tx.len =
          u.withData (storeBytes n (b :: bs) s.tx.buf) s.tx.len := by
        rw [← hheard.took.polled.tx]
        rfl
      exact hfirst.trans (hsame ▸ hp)
    · simp only [receiveBytes, hread, if_true, hreceive, List.length_cons, Nat.add_assoc, Nat.add_comm 1]

/-! ## The Listen of a data frame -/

/-- From the origin of Tlt the line gives a start bit in its windows, the bytes `bs` in legal cells, and a stop bit
(R54, R92). -/
def State.GivesFrame (bs : List Byte) (s : State) : Prop :=
  ∃ (g ls hs : Nat) (cells : List (Nat × Nat)) (sl : Nat) (rest : List Bool),
    g < s.cfg.timing.tListenStart * s.cfg.coarseRatio ∧
    (1 ≤ ls ∧ ls < s.cfg.timing.tListenResync) ∧ (1 ≤ hs ∧ hs < s.cfg.timing.tListenResync) ∧
    cellsCarry s.cfg.timing cells (bs.flatMap bitsMsb) = true ∧
    (s.cfg.timing.tBitLowMin ≤ sl ∧ sl < s.cfg.timing.tBitLowMax) ∧
    s.env = List.replicate g false ++
      (cellWave (ls, hs) ++ (cellsWave cells ++ (cellWave (sl, s.cfg.timing.tBitHighMax) ++ rest)))

/-- A Listen receives the bytes of a data frame and ends by their number (R92). -/
theorem listenPhase_of_frame (k : DevClass) {bs : List Byte} {s : State} (hwf : s.cfg.wf = true) (hgaps : s.gaps = [])
    (hdrive : s.drive = false) (htimer : s.timer = ⟨.coarse, s.now, true⟩) (hframe : s.GivesFrame bs)
    (hlen : bs.length ≤ 8) :
    ∃ u, Polled (s.withData (storeBytes 0 bs s.tx.buf) s.tx.len) u ∧
      listenPhase k s =
        if bs.length < 2 then (u.setLen bs.length).raiseErr .listenShort
        else ((u.setLen bs.length).deliver k).endTx .listenOk := by
  obtain ⟨g, ls, hs, cells, sl, rest, hg, ⟨hls1, hls⟩, ⟨hhs1, hhs⟩, hcarry, hsl, henv⟩ := hframe
  have hlow := Config.one_le_tBitLowMin hwf
  have hfall := headD_cellsWave_append hlow hcarry
    (headD_cellWave_append (c := (sl, s.cfg.timing.tBitHighMax)) (hlow.trans hsl.1) rest)
  obtain ⟨u1, h1, hphase⟩ := listenPhase_of_start k hwf hgaps hdrive htimer henv
    (headD_cellWave_append hls1 _) hg
  obtain ⟨u2, h2, hresync⟩ := listenResync_of_startBit k (h1.cfg ▸ hwf) h1.took.gaps h1.released h1.env
    (h1.cfg ▸ hls) hhs1 (h1.cfg ▸ hhs) hfall
  have h12 := h1.trans h2
  have hcfg := h12.cfg
  obtain ⟨w, hp, hreceive⟩ := receiveBytes_cells (hcfg ▸ hwf) h12.took.gaps h12.released (hcfg ▸ hcarry)
    (hcfg ▸ hsl) (hcfg ▸ h12.env) 0 hlen
  rw [h12.took.polled.tx] at hp
  rw [Nat.zero_add] at hreceive
  refine ⟨w, (h12.took.polled.withData _ _).trans hp, ?_⟩
  rw [hphase, hresync]
  simp only [listenData, hreceive]

/-- Settles O40: with no byte or one received the phase aborts, and an aborted Listen writes no device state. -/
theorem listenShortFrameDiscarded : Obligations.ListenShortFrameDiscarded := by
  intro s a k r bs g ls hs cells sl rest hstart hgaps hk hlen hg hls1 hls hhs1 hhs hcarry hmin hmax henv
  obtain ⟨hwf, hreleased, htimer⟩ := hstart
  have hframe : (s.addressed k r .listen).GivesFrame bs :=
    ⟨g, ls, hs, cells, sl, rest, hg, ⟨hls1, hls⟩, ⟨hhs1, hhs⟩, hcarry, ⟨hmin, hmax⟩, by simpa using henv⟩
  obtain ⟨u, -, hphase⟩ := listenPhase_of_frame k (s := s.addressed k r .listen) hwf hgaps hreleased htimer hframe
    (by omega)
  rw [if_pos (by omega)] at hphase
  have hexec := exec_listenOf_some r hk
  rw [hphase] at hexec
  have haborted := aborted_raiseErr .listenShort (u.setLen bs.length)
  obtain ⟨hids, hops, hout⟩ := listen_aborted hreleased hk hexec haborted
  exact ⟨_, hexec, haborted, hids, hops, hout, rfl⟩

/-- Settles O39: the delivery takes the buffer's first two bytes, which are the first two received. -/
theorem listenDeliversPayload : Obligations.ListenDeliversPayload := by
  intro s a k r b0 b1 more g ls hs cells sl rest hstart hgaps hk hmore hg hls1 hls hhs1 hhs hcarry hmin hmax henv
  obtain ⟨hwf, hreleased, htimer⟩ := hstart
  have hframe : (s.addressed k r .listen).GivesFrame (b0 :: b1 :: more) :=
    ⟨g, ls, hs, cells, sl, rest, hg, ⟨hls1, hls⟩, ⟨hhs1, hhs⟩, hcarry, ⟨hmin, hmax⟩, by simpa using henv⟩
  have hlen : (b0 :: b1 :: more).length = 2 + more.length := by simp only [List.length_cons]; omega
  obtain ⟨u, hp, hphase⟩ := listenPhase_of_frame k (s := s.addressed k r .listen) hwf hgaps hreleased htimer hframe
    (by omega)
  rw [hlen, if_neg (by omega)] at hphase
  have hexec := exec_listenOf_some r hk
  rw [hphase] at hexec
  obtain ⟨hfirst, hsecond⟩ := storeBytes_first b0 b1 more s.tx.buf
  have hb0 : (u.setLen (2 + more.length)).bufAt 0 = b0 := by
    rw [State.bufAt, State.setLen_tx, hp.tx]
    exact hfirst
  have hb1 : (u.setLen (2 + more.length)).bufAt 1 = b1 := by
    rw [State.bufAt, State.setLen_tx, hp.tx]
    exact hsecond
  have hreg : (u.setLen (2 + more.length)).tx.reg = r := by
    rw [State.setLen_tx, hp.tx]
    rfl
  obtain ⟨n, hops, hregs⟩ := hp.ops
  refine ⟨_, n, hexec, rfl, rfl, exec_listenOf_lineOut hk hexec hreleased, by simp,
    (State.deliver_ingestIn k _).trans hops, ?_, ?_⟩
  · rw [State.endTx_ids, State.deliver_ids, hb0, hb1, hreg, State.setLen_ids, State.setLen_cfg, hp.ids, hp.cfg]
    rfl
  · rw [State.endTx_regs, State.deliver_regs, hb0, hb1, hreg, State.setLen_regs, hregs]
    rfl

end Sys2Proof.Machine

/-!
SUPPORT. Who writes a collision flag (R119). `ExecIds` says once what a command can write of the identities: nothing, the
flag of a collided Talk of register 3, or the identity policy's update of a Listen of register 3 delivered whole.
-/

namespace Sys2Proof.Machine

/-! ## What a command writes of the identities -/

/-- The identities `t` has after the command `i` in `s` (R87, R92, R118, R119). -/
inductive ExecIds (i : Instr) (s t : State) : Prop
  | kept (hids : t.ids = s.ids)
  | collided (a : BusAddr) (k : DevClass) (e : Err) (hi : i = .talkR3 a) (hk : s.matchClass a = some k)
      (houtcome : t.outcome = .error e) (hcls : e.cls = .collision)
      (hids : t.ids = s.ids.set k { s.ids.get k with collision := true })
  | updated (a : BusAddr) (k : DevClass) (b0 b1 : Byte) (hi : i = .listenR3 a) (hk : s.matchClass a = some k)
      (houtcome : t.outcome = .listenOk)
      (hids : t.ids = s.ids.set k ((s.ids.get k).update s.cfg (s.cfg.acceptHandlers k) b0 b1))

/-- A command whose own part writes no identity writes none (R85). -/
theorem State.command_ids {a : BusAddr} {s : State} {f : DevClass → State → State}
    (hf : ∀ k u, (f k u).ids = u.ids) : (s.command a f).ids = s.ids := by
  cases hk : s.matchClass a with
  | none => rw [State.command_none f hk]; rfl
  | some k => rw [State.command_some f hk, hf]; rfl

theorem execIds_of_ids {i : Instr} {s t u : State} (h : exec i s = .next t) (hu : exec i s = .next u)
    (hids : u.ids = s.ids) : ExecIds i s t := by
  cases h.symm.trans hu
  exact .kept hids

/-- A Talk writes a flag only at a collision, for register 3 (R87). -/
theorem execIds_talkOf {a : BusAddr} {r : RegNum} {s t : State} (h : exec (talkOf a r) s = .next t) :
    ExecIds (talkOf a r) s t := by
  cases hk : s.matchClass a with
  | none =>
    rw [exec_talkOf, State.talk, State.command_none _ hk] at h
    injection h with h
    exact .kept (h ▸ rfl)
  | some k =>
    obtain ⟨u, hp, rfl | ⟨e, rfl⟩ | rfl⟩ := exec_talkOf_cases hk h
    · exact .kept (hp.ids.trans (s.talking_ids k r))
    · obtain ⟨hcls, -, -, hids⟩ := failedTalkDrainsNothing s _ a k r e hk h rfl
      split at hids
      · next hr =>
        subst hr
        exact .collided a k e rfl hk rfl hcls hids
      · exact .kept hids
    · exact .kept ((u.drainReg_ids k r).trans (hp.ids.trans (s.talking_ids k r)))

theorem exec_listenOf (a : BusAddr) (r : RegNum) (s : State) : exec (listenOf a r) s = .next (s.listen a r) := by
  obtain rfl | rfl | rfl | rfl := twoBitField_cases r <;> rfl

/-- A Listen writes an identity only in a delivery, for register 3 (R92). -/
theorem execIds_listenOf {a : BusAddr} {r : RegNum} {s t : State} (h : exec (listenOf a r) s = .next t) :
    ExecIds (listenOf a r) s t := by
  cases hk : s.matchClass a with
  | none =>
    rw [exec_listenOf, State.listen, State.command_none _ hk] at h
    injection h with h
    exact .kept (h ▸ rfl)
  | some k =>
    obtain ⟨u, hkeeps, ⟨e, rfl⟩ | rfl⟩ := exec_listenOf_cases hk h
    · exact .kept hkeeps.devices.1
    · have hids := u.deliver_ids k
      rw [hkeeps.reg, hkeeps.devices.1, hkeeps.cfg] at hids
      split at hids
      · next hr =>
        subst hr
        exact .updated a k _ _ rfl hk rfl hids
      · exact .kept hids

theorem exec_execIds {i : Instr} {s t : State} (h : exec i s = .next t) : ExecIds i s t := by
  cases i with
  | talkR0 a => exact execIds_talkOf (r := 0b00#2) h
  | talkR1 a => exact execIds_talkOf (r := 0b01#2) h
  | talkR2 a => exact execIds_talkOf (r := 0b10#2) h
  | talkR3 a => exact execIds_talkOf (r := 0b11#2) h
  | listenR0 a => exact execIds_listenOf (r := 0b00#2) h
  | listenR1 a => exact execIds_listenOf (r := 0b01#2) h
  | listenR2 a => exact execIds_listenOf (r := 0b10#2) h
  | listenR3 a => exact execIds_listenOf (r := 0b11#2) h
  | flush a | rsv0 a | rsv2 a | rsv3 a | rsv4 a _ => exact execIds_of_ids h rfl (State.command_ids fun _ _ => rfl)

/-! ## The writers of the flag -/

/-- The identity policy clears a flag or leaves it (R118, R119). -/
theorem Identity.update_collision {d : Identity} (h : d.collision = false) (c : Config) (accept : List Byte)
    (b0 b1 : Byte) : (d.update c accept b0 b1).collision = false := by
  unfold Identity.update
  split
  · exact h
  · split
    · rfl
    · split
      · exact h
      · split <;> exact h

/-- A device reset sets no flag (R157). -/
theorem AfterDeviceReset.collision_of_false {s t : State} (h : AfterDeviceReset s t) {k : DevClass}
    (hk : (s.ids.get k).collision = false) : (t.ids.get k).collision = false := by
  cases hp : s.cfg.present k with
  | false => rw [h.absent k hp, hk]
  | true => rw [h.identity k hp]

/-- What a step can do to the collision flag of class `k`: leave it, set it or clear it, and when it does the latter two
(R87, R118, R119, R157, R158). -/
inductive FlagStep (s t : State) (k : DevClass) : Prop
  | kept (h : (t.ids.get k).collision = (s.ids.get k).collision)
  | set (h : (t.ids.get k).collision = true) (hs : s.state = .dispatch) (a : BusAddr) (e : Err)
      (hi : s.fetched = .talkR3 a) (hk : s.matchClass a = some k) (houtcome : t.outcome = .error e)
      (hcls : e.cls = .collision)
  | cleared (h : (s.ids.get k).collision = false → (t.ids.get k).collision = false)
      (hcause : (s.state = .classify ∧ t.outcome = .reset ∧ t.state = .idle) ∨
        (s.resetEntry = true ∧ s.begun = false) ∨
        (s.state = .dispatch ∧ t.outcome = .listenOk ∧ ∃ a, s.fetched = .listenR3 a ∧ s.matchClass a = some k))

/-- DISPATCH writes the flag of the class it addresses and no other. -/
theorem flagStep_of_execIds {s t : State} (hs : s.state = .dispatch) (h : ExecIds s.fetched s t) (k : DevClass) :
    FlagStep s t k := by
  cases h with
  | kept hids => exact .kept (by rw [hids])
  | collided a j e hi hj houtcome hcls hids =>
    by_cases hkj : k = j
    · subst hkj
      exact .set (by rw [hids, Identities.get_set]) hs a e hi hj houtcome hcls
    · exact .kept (by rw [hids, Identities.get_set_of_ne hkj])
  | updated a j b0 b1 hi hj houtcome hids =>
    by_cases hkj : k = j
    · subst hkj
      refine .cleared (fun h0 => ?_) (.inr (.inr ⟨hs, houtcome, a, hi, hj⟩))
      rw [hids, Identities.get_set]
      exact Identity.update_collision h0 ..
    · exact .kept (by rw [hids, Identities.get_set_of_ne hkj])

/-- Outside DISPATCH only the two device resets write a flag (R79, R158). -/
theorem flagStep_of_step {s t : State} (hinv : s.Inv) (hstep : step s = .next t) (k : DevClass) : FlagStep s t k := by
  by_cases hdue : noPowerOnDue s
  · have hearly (hs : s.state = .idle ∨ s.state = .classify ∨ s.state = .sync ∨ s.state = .command ∨ s.state = .srq) :
        FlagStep s t k := by
      obtain ⟨hids, -⟩ | ⟨hclassify, houtcome, hidle, hafter⟩ := earlyPhasesLeaveDevicesToIngest s t hdue hstep hs
      · exact .kept (by rw [hids])
      · exact .cleared hafter.collision_of_false (.inl ⟨hclassify, houtcome, hidle⟩)
    cases hs : s.state with
    | idle | classify | sync | command | srq => exact hearly (by simp [hs])
    | dispatch =>
      rw [step_dispatch hinv.config hdue hs] at hstep
      exact flagStep_of_execIds hs (exec_execIds hstep) k
    | talk => exact absurd hs hinv.notTalk
    | listen => exact absurd hs hinv.notListen
  · rw [step_powerOn hinv.config hdue] at hstep
    injection hstep with ht
    have hafter : AfterDeviceReset s t := ht ▸ s.deviceReset_after.of_same rfl rfl
    exact .cleared hafter.collision_of_false (.inr (.inl ((not_noPowerOnDue_iff s).mp hdue)))

/-- Settles O47: a step that sets the flag is a collided Talk of register 3, and one that clears it has one of the three
causes. -/
theorem collisionFlagWriters : Obligations.CollisionFlagWriters := by
  intro s t k hinv hstep
  cases flagStep_of_step hinv hstep k with
  | kept h => exact ⟨fun h0 h1 => by simp [h, h0] at h1, fun h1 h0 => by simp [h, h1] at h0⟩
  | set h hs a e hi hk houtcome hcls =>
    exact ⟨fun _ _ => ⟨hs, a, e, hi, hk, houtcome, hcls⟩, fun _ h0 => by simp [h] at h0⟩
  | cleared h hcause => exact ⟨fun h0 h1 => by simp [h h0] at h1, fun _ _ => hcause⟩

end Sys2Proof.Machine

/-!
SUPPORT. The device registers one by one: the service-request mask (R101), the bytes that the keyboard and the arbitrary
class give a Talk (R105, R107, R110, R112), the identity policy (R118), and the two writers of arbitrary register 2 (R117,
R138).
-/

namespace Sys2Proof.Machine

/-! ## The service-request mask -/

/-- A class asks for service iff it is present and has pending data (R100, R101). -/
theorem State.needsService_get_iff (s : State) (k : DevClass) :
    s.needsService.get k = true ↔ s.cfg.present k = true ∧ s.regs.pending k = true := by
  cases k <;> exact Bool.and_eq_true_iff

/-- Settles O17: each bit is presence and pending data, and the mouse has pending data in three ways. -/
theorem needsServiceMask : Obligations.NeedsServiceMask := by
  intro s
  exact ⟨(s.needsService_get_iff .kbd).trans (and_congr_right' decide_eq_true_iff),
    (s.needsService_get_iff .mouse).trans (and_congr_right' s.regs.mouse.pending_iff), s.needsService_get_iff .arb⟩

/-! ## What the keyboard gives a Talk -/

@[simp] theorem hiByte_wordOf (b0 b1 : Byte) : hiByte (wordOf b0 b1) = b0 := BitVec.extractLsb'_append_eq_left

@[simp] theorem loByte_wordOf (b0 b1 : Byte) : loByte (wordOf b0 b1) = b1 := BitVec.extractLsb'_append_eq_right

theorem Keyboard.peekPair_of_one {k : Keyboard} (h : k.size = 1) : k.peekPair = wordOf (k.entry 0) filler := by
  simp [Keyboard.peekPair, h]

theorem Keyboard.peekPair_of_two_le {k : Keyboard} (h : 2 ≤ k.size) : k.peekPair = wordOf (k.entry 0) (k.entry 1) := by
  rw [Keyboard.peekPair, if_neg (by omega), if_neg (by omega)]

/-- Register 0 of a keyboard with entries gives the two bytes of the pair it peeks at (R105). -/
theorem State.payload_produce_kbd_r0 {s : State} (h : s.regs.kbd.size ≠ 0) :
    (s.produce .kbd 0b00#2).payload = [hiByte s.regs.kbd.peekPair, loByte s.regs.kbd.peekPair] := by
  have hproduce : s.produce .kbd 0b00#2 = _ := if_neg h
  rw [hproduce]
  exact State.payload_producePair (hiByte s.regs.kbd.peekPair) (loByte s.regs.kbd.peekPair) s

/-- Settles O27: the pair is an entry over the filler or over the next entry, and the drain record counts the entries. -/
theorem keyboardTalkBytes : Obligations.KeyboardTalkBytes := by
  intro s
  refine ⟨fun h => ?_, fun h => ?_, State.payload_producePair .., ?_, ?_⟩
  · have hsize : s.regs.kbd.size ≠ 0 := by omega
    obtain ⟨hdrain, -⟩ := State.produce_kbd_r0 hsize
    rw [State.payload_produce_kbd_r0 hsize, Keyboard.peekPair_of_one h, hiByte_wordOf, loByte_wordOf]
    exact ⟨rfl, by omega⟩
  · have hsize : s.regs.kbd.size ≠ 0 := by omega
    obtain ⟨hdrain, -⟩ := State.produce_kbd_r0 hsize
    rw [State.payload_produce_kbd_r0 hsize, Keyboard.peekPair_of_two_le h, hiByte_wordOf, loByte_wordOf]
    exact ⟨rfl, by omega⟩
  · simp [State.produce_regs]
  · simp [State.produce_regs]

/-! ## What the arbitrary class gives a Talk -/

/-- An entry of the buffer after the copy of `n` entries (R110). -/
theorem getElem_copyFirst (n : Nat) (src dst : Vector Byte 8) {i : Nat} (hi : i < 8) :
    (copyFirst n src dst)[i] = if i < n then src[i] else dst[i] := by
  interval_cases i <;> rfl

/-- The copied entries are the source's. -/
theorem take_copyFirst (n : Nat) (src dst : Vector Byte 8) :
    (copyFirst n src dst).toList.take n = src.toList.take n := by
  refine List.ext_getElem (by simp) fun i hi _ => ?_
  have hin : i < n ∧ i < 8 := by simpa using hi
  simp [getElem_copyFirst n src dst hin.2, hin.1]

theorem State.payload_produce_arb_r0 {s : State} (h : s.regs.arb.r0ready = true) :
    (s.produce .arb 0b00#2).payload = s.regs.arb.r0buf.toList.take s.regs.arb.r0len := by
  have hproduce : s.produce .arb 0b00#2 = _ := if_pos h
  rw [hproduce]
  exact take_copyFirst ..

theorem State.payload_produce_arb_r2 {s : State} (h : s.regs.arb.r2set = true) :
    (s.produce .arb 0b10#2).payload = [hiByte s.regs.arb.r2val, loByte s.regs.arb.r2val] := by
  have hproduce : s.produce .arb 0b10#2 = _ := if_pos h
  rw [hproduce, State.payload_producePair]

/-- Settles O29: a ready register 0 is copied whole, and a set register 2 is its two bytes. -/
theorem arbitraryTalkBytes : Obligations.ArbitraryTalkBytes := by
  intro s
  exact ⟨fun hready _ => State.payload_produce_arb_r0 hready, State.payload_produce_arb_r2, by simp [State.produce_regs],
    by simp [State.produce_regs]⟩

/-! ## The identity policy and arbitrary register 2 -/

/-- The policy with its last check in the handler alone (R118). -/
theorem Identity.update_eq (c : Config) (accept : List Byte) (b0 b1 : Byte) (d : Identity) :
    d.update c accept b0 b1 =
      if b1 = c.handlerSelftest then d
      else if b1 = c.handlerCollisionAck ∧ d.collision = true then { d with collision := false }
      else if b0.extractLsb' 0 4 = 0#4 then d
      else
        { addr := b0.extractLsb' 0 4
          handler := if b1 ∈ accept then b1 else d.handler
          collision := d.collision } := by
  unfold Identity.update proposedAddr
  by_cases h : b1 ∈ accept
  · simp only [if_pos h]
  · simp only [if_neg h]

/-- Settles O43: the policy is run on the addressed class's identity, which alone is written. -/
theorem identityUpdatePolicy : Obligations.IdentityUpdatePolicy := by
  intro s k b0 b1
  refine ⟨?_, fun j hj => ?_, rfl⟩
  · rw [State.identityUpdate_ids, Identities.get_set, Identity.update_eq]
  · rw [State.identityUpdate_ids, Identities.get_set_of_ne hj]

theorem RegFile.ingest_arbWriteR2 {c : Config} (h : c.present .arb = true) (v : Word16) (r : RegFile) :
    r.ingest c (.arbWriteR2 v) = ({ r with arb := r.arb.writeR2 v }, .ok) := by
  simp [RegFile.ingest, IngestOp.cls, h, RegFile.perform]

/-- Settles O52: both are `Arbitrary.writeR2`, the operation with its result OK. -/
theorem arbitraryRegister2WrittenAlike : Obligations.ArbitraryRegister2WrittenAlike := by
  intro s v h
  rw [RegFile.ingest_arbWriteR2 h]
  exact ⟨rfl, rfl, rfl⟩

end Sys2Proof.Machine

/-!
SUPPORT. The keyboard event buffer (44_keyboard_buffer.md) on its entries: a push puts its bytes behind the last entry
or changes nothing (R123, R124), a peek reads the two oldest entries (R125), and a drain drops them (R126).
-/

namespace Sys2Proof.Machine

/-! ## Pushes -/

/-- `l` runs onto the end of `k`'s queue and gives `k'`, which keeps the head and register 2. -/
structure Keyboard.Appended (k : Keyboard) (l : List Byte) (k' : Keyboard) : Prop where
  entries : k'.entries = k.entries ++ l
  head : k'.head = k.head
  r2hi : k'.r2hi = k.r2hi
  r2lo : k'.r2lo = k.r2lo

theorem Keyboard.appended_append (k : Keyboard) (x : Byte) (hroom : k.size < 16) : k.Appended [x] (k.append x) :=
  ⟨k.append_entries x hroom, rfl, rfl, rfl⟩

theorem Keyboard.Appended.trans {k k' k'' : Keyboard} {l l' : List Byte} (h : k.Appended l k')
    (h' : k'.Appended l' k'') : k.Appended (l ++ l') k'' :=
  ⟨by rw [h'.entries, h.entries, List.append_assoc], h'.head.trans h.head, h'.r2hi.trans h.r2hi,
    h'.r2lo.trans h.r2lo⟩

theorem Keyboard.appended_append_append (k : Keyboard) (x y : Byte) (hroom : k.size + 1 < 16) :
    k.Appended [x, y] ((k.append x).append y) :=
  (k.appended_append x (Nat.lt_of_succ_lt hroom)).trans ((k.append x).appended_append y hroom)

theorem Keyboard.pushSingle_of_full {k : Keyboard} (h : k.size = 16) (x : Byte) : k.pushSingle x = (k, .dropped) :=
  if_pos h

theorem Keyboard.pushSingle_of_room {k : Keyboard} (h : k.size ≠ 16) (x : Byte) :
    k.pushSingle x = (k.append x, .ok) :=
  if_neg h

theorem Keyboard.pushPair_of_short {k : Keyboard} (h : 16 - k.size < if k.size % 2 = 1 then 3 else 2) (x y : Byte) :
    k.pushPair x y = (k, .refused) :=
  if_pos h

/-- With room the pair goes behind the last entry, at an odd occupancy with the filler before it (R124). -/
theorem Keyboard.appended_pushPair {k : Keyboard} (h : ¬16 - k.size < if k.size % 2 = 1 then 3 else 2) (x y : Byte) :
    (k.pushPair x y).2 = .ok ∧
      k.Appended (if k.size % 2 = 1 then [0xFF#8, x, y] else [x, y]) (k.pushPair x y).1 := by
  have hpush : k.pushPair x y = (((if k.size % 2 = 1 then k.append filler else k).append x).append y, .ok) := if_neg h
  rw [hpush]
  refine ⟨rfl, ?_⟩
  split at h
  · next hodd =>
    have hroom : (k.append filler).size + 1 < 16 := by rw [Keyboard.append_size]; omega
    rw [if_pos hodd, if_pos hodd]
    exact (k.appended_append filler (by omega)).trans ((k.append filler).appended_append_append x y hroom)
  · next heven =>
    rw [if_neg heven, if_neg heven]
    exact k.appended_append_append x y (by omega)

/-- Settles O49: a push that is not turned away is a run of `Append`s, each with room. -/
theorem keyboardPushes : Obligations.KeyboardPushes := by
  intro k x y hcap
  constructor
  · split
    · next hfull => exact Keyboard.pushSingle_of_full hfull x
    · next hroom =>
      obtain ⟨hentries, hhead, hhi, hlo⟩ := k.appended_append x (by omega)
      rw [Keyboard.pushSingle_of_room hroom]
      exact ⟨rfl, hentries, hhead, hhi, hlo⟩
  · by_cases hshort : 16 - k.size < if k.size % 2 = 1 then 3 else 2
    · rw [if_pos hshort]
      exact Keyboard.pushPair_of_short hshort x y
    · obtain ⟨hok, hentries, hhead, hhi, hlo⟩ := Keyboard.appended_pushPair hshort x y
      rw [if_neg hshort]
      exact ⟨hok, hentries, hhead, hhi, hlo⟩

/-! ## Peek and drain -/

theorem Keyboard.peekPair_of_empty {k : Keyboard} (h : k.size = 0) : k.peekPair = 0xFFFF#16 := if_pos h

theorem Keyboard.entries_of_empty {k : Keyboard} (h : k.size = 0) : k.entries = [] := by
  rw [Keyboard.entries, h, List.range_zero, List.map_nil]

theorem Keyboard.entries_of_one {k : Keyboard} (h : k.size = 1) : k.entries = [k.entry 0] := by
  rw [Keyboard.entries, h, List.range_one, List.map_singleton]

theorem Keyboard.entries_of_two_le {k : Keyboard} (h : 2 ≤ k.size) :
    ∃ rest, k.entries = k.entry 0 :: k.entry 1 :: rest := by
  obtain ⟨n, hn⟩ := Nat.exists_eq_add_of_le' h
  rw [Keyboard.entries, hn, List.range_succ_eq_map, List.range_succ_eq_map]
  exact ⟨_, rfl⟩

/-- The head moves round the queue's 16 slots (R126). -/
theorem Keyboard.drain_head {k : Keyboard} {n : Nat} (h : min n 2 ≤ k.size) :
    (k.drain n).head.toNat = (k.head.toNat + min n 2) % 16 := by
  rw [Keyboard.drain_of_le h, BitVec.toNat_add, BitVec.toNat_ofNat, Nat.add_mod_mod]

theorem Keyboard.drain_of_lt {k : Keyboard} {n : Nat} (h : k.size < min n 2) : k.drain n = k := if_pos h

/-- Settles O50: the peek by the number of entries, none, one or more, and the drain by whether they are there. -/
theorem keyboardPeekAndDrain : Obligations.KeyboardPeekAndDrain := by
  intro k n _
  constructor
  · obtain h | h | h : k.size = 0 ∨ k.size = 1 ∨ 2 ≤ k.size := by omega
    · rw [Keyboard.entries_of_empty h]
      exact Keyboard.peekPair_of_empty h
    · rw [Keyboard.entries_of_one h]
      exact Keyboard.peekPair_of_one h
    · obtain ⟨rest, hentries⟩ := Keyboard.entries_of_two_le h
      rw [hentries]
      exact Keyboard.peekPair_of_two_le h
  · split
    · next h => exact Keyboard.drain_of_lt h
    · next h =>
      have hle : min n 2 ≤ k.size := Nat.le_of_not_lt h
      obtain ⟨hkq, -, -⟩ := k.drain_frame n
      exact ⟨Keyboard.drain_entries hle, hkq, Keyboard.drain_head hle⟩

end Sys2Proof.Machine

/-!
SUPPORT. The ingest port (45_ingest_port.md): presence decides whether an operation is performed (R129), and the two
operations with bounded operands, the mouse buttons (R135) and the load of arbitrary register 0 (R136), are each
performed within their bounds and refused outside them.
-/

namespace Sys2Proof.Machine

/-! ## Presence -/

theorem RegFile.ingest_of_present {c : Config} {op : IngestOp} {k : DevClass} (hcls : op.cls = some k)
    (hpresent : c.present k = true) (r : RegFile) : r.ingest c op = r.perform c op := by
  simp [RegFile.ingest, hcls, hpresent]

theorem RegFile.ingest_of_absent {c : Config} {op : IngestOp} {k : DevClass} (hcls : op.cls = some k)
    (habsent : c.present k = false) (r : RegFile) : r.ingest c op = (r, .refused) := by
  simp [RegFile.ingest, hcls, habsent]

/-- What the operation itself refuses is refused whether or not its class is present. -/
theorem RegFile.ingest_of_perform_refused {c : Config} {op : IngestOp} {r : RegFile}
    (hrefused : r.perform c op = (r, .refused)) : r.ingest c op = (r, .refused) := by
  unfold RegFile.ingest
  split
  · exact hrefused
  · split
    · exact hrefused
    · rfl

/-- Settles O51: a present keyboard's operation is performed, and the two pushes run the buffer's. -/
theorem ingestPushesRunBufferOperations : Obligations.IngestPushesRunBufferOperations := by
  intro c r x y hpresent
  exact ⟨RegFile.ingest_of_present rfl hpresent r, RegFile.ingest_of_present rfl hpresent r⟩

/-! ## Bounded operands -/

theorem RegFile.perform_mouseButtons_of_le {b : Nat} (h : 4 ≤ b) (c : Config) (r : RegFile) :
    r.perform c (.mouseButtons b) = (r, .refused) :=
  if_pos h

theorem RegFile.perform_mouseButtons_of_lt {b : Nat} (h : b < 4) (c : Config) (r : RegFile) :
    r.perform c (.mouseButtons b) = ({ r with mouse := { r.mouse with curButtons := BitVec.ofNat 2 b } }, .ok) :=
  if_neg (Nat.not_le.mpr h)

theorem Arbitrary.loadR0_of_refused {d : List Byte} {a : Arbitrary}
    (h : d.length < 1 ∨ 8 < d.length ∨ a.r0ready = true) : a.loadR0 d = (a, .refused) := by
  unfold Arbitrary.loadR0
  split
  · rfl
  · next hlen => exact if_pos ((or_assoc.mpr h).resolve_left hlen)

theorem Arbitrary.loadR0_of_accepted {d : List Byte} {a : Arbitrary} (hpos : 1 ≤ d.length) (hcap : d.length ≤ 8)
    (hready : a.r0ready = false) :
    a.loadR0 d = ({ a with r0buf := padded8 d, r0len := d.length, r0ready := true }, .ok) := by
  have hlen : ¬(d.length < 1 ∨ arbR0Cap < d.length) := not_or.mpr ⟨Nat.not_lt.mpr hpos, Nat.not_lt.mpr hcap⟩
  rw [Arbitrary.loadR0, if_neg hlen, hready]
  rfl

theorem getElem_padded8 (d : List Byte) {i : Nat} (hi : i < 8) : (padded8 d)[i] = d.getD i 0#8 := by
  interval_cases i <;> rfl

/-- The buffer is the load's bytes with 0 behind them (R136). -/
theorem toList_padded8 {d : List Byte} (hcap : d.length ≤ 8) :
    (padded8 d).toList = d ++ List.replicate (8 - d.length) 0#8 := by
  refine List.ext_getElem (by simp; omega) fun i hi _ => ?_
  rw [Vector.getElem_toList, getElem_padded8, List.getElem_append]
  split
  · next h => exact List.getD_eq_getElem d _ h
  · next h => rw [List.getD_eq_default d _ (Nat.le_of_not_lt h), List.getElem_replicate]

/-! ## Refusals and effects -/

/-- Settles O53: absence refuses every operation of a class, and the two bounded operations refuse on their own. -/
theorem ingestRefusals : Obligations.IngestRefusals := by
  intro c r
  refine ⟨fun hkbd => ?_, fun hmouse => ?_, fun harb => ?_, fun b hb => ?_, fun d hd => ?_⟩
  · exact ⟨fun _ => RegFile.ingest_of_absent rfl hkbd r, fun _ _ => RegFile.ingest_of_absent rfl hkbd r,
      fun _ => RegFile.ingest_of_absent rfl hkbd r⟩
  · exact ⟨fun _ _ => RegFile.ingest_of_absent rfl hmouse r, fun _ => RegFile.ingest_of_absent rfl hmouse r⟩
  · exact ⟨fun _ => RegFile.ingest_of_absent rfl harb r, RegFile.ingest_of_absent rfl harb r,
      fun _ => RegFile.ingest_of_absent rfl harb r, RegFile.ingest_of_absent rfl harb r⟩
  · exact RegFile.ingest_of_perform_refused (RegFile.perform_mouseButtons_of_le hb c r)
  · refine RegFile.ingest_of_perform_refused ?_
    rw [RegFile.perform, Arbitrary.loadR0_of_refused hd]

/-- Settles O54: each operation is performed, and its effect is read off; register 0 is loaded with the padded bytes. -/
theorem ingestEffects : Obligations.IngestEffects := by
  intro c r
  refine ⟨fun hkbd _ => RegFile.ingest_of_present rfl hkbd r,
    fun hmouse _ _ => RegFile.ingest_of_present rfl hmouse r, fun hmouse b hb => ?_,
    fun harb d hpos hcap hready => ?_, fun harb v => RegFile.ingest_arbWriteR2 harb v r,
    fun harb => RegFile.ingest_of_present rfl harb r, fun harb => RegFile.ingest_of_present rfl harb r⟩
  · rw [RegFile.ingest_of_present rfl hmouse, RegFile.perform_mouseButtons_of_lt hb]
  · refine ⟨padded8 d, toList_padded8 hcap, ?_⟩
    rw [RegFile.ingest_of_present rfl harb, RegFile.perform, Arbitrary.loadR0_of_accepted hpos hcap hready]

end Sys2Proof.Machine

/-!
SUPPORT. Exceptions (60_exceptions.md): the abort's release of the line (R143, R144) and the numbers of the error record
(R142).
-/

namespace Sys2Proof.Machine

/-- A release reaches the port only where the line was driven (R64, R144). -/
theorem State.setDrive_false (s : State) :
    s.setDrive false =
      { s with drive := false, lineOut := if s.drive = true then (s.now, false) :: s.lineOut else s.lineOut } := by
  rw [State.setDrive]
  cases s.drive <;> rfl

/-- Settles O45: the release writes the driver and the port, `err`, `outcome` and `state` are the abort's other writes. -/
theorem abortWritesOnly : Obligations.AbortWritesOnly := by
  intro s e
  rw [State.raiseErr, State.endTx, State.setDrive_false]
  rfl

/-- Settles O60: the table of R142, row by row. -/
theorem errorNumbers : Obligations.ErrorNumbers := by
  unfold Obligations.ErrorNumbers
  decide

end Sys2Proof.Machine

/-!
SUPPORT. The device reset (R157) and power-on (R158): what they write outside the device registers, which
`State.deviceReset_after` speaks of.
-/

namespace Sys2Proof.Machine

/-- The reset of one class writes the device state alone (R157). -/
theorem State.resetClass_eq (k : DevClass) (s : State) :
    s.resetClass k = { s with ids := (s.resetClass k).ids, regs := (s.resetClass k).regs } := by
  unfold State.resetClass
  split <;> rfl

/-- The device reset writes the device state and releases the line (R157). -/
theorem State.deviceReset_eq (s : State) :
    s.deviceReset = { s.setDrive false with ids := s.deviceReset.ids, regs := s.deviceReset.regs } := by
  unfold State.deviceReset
  rw [State.resetClass_eq .arb, State.resetClass_eq .mouse, State.resetClass_eq .kbd]
  rfl

/-- Settles O10: class by class by `State.deviceReset_after`, and beside the device state only the release is written. -/
theorem deviceResetRestoresDefaults : Obligations.DeviceResetRestoresDefaults := by
  intro s
  refine ⟨s.deviceReset_after, s.deviceReset.ids, s.deviceReset.regs, ?_⟩
  conv_lhs => rw [s.deviceReset_eq, s.setDrive_false]

/-- Power-on is the device reset with IDLE, no outcome and the timer stopped at FINE, the request taken (R31, R158). -/
theorem State.powerOn_eq (s : State) :
    s.powerOn =
      { s.setDrive false with
        ids := s.deviceReset.ids
        regs := s.deviceReset.regs
        state := .idle
        outcome := .none
        timer := { s.timer with running := false, res := .fine }
        resetEntry := false } := by
  unfold State.powerOn
  conv_lhs => rw [s.deviceReset_eq]

/-- Settles O11: the step takes the request, and power-on's writes are read off; the stopped timer counts 0. -/
theorem powerOnBeforeFirstTransaction : Obligations.PowerOnBeforeFirstTransaction := by
  intro s hwf hreset hbegun
  have hdue : ¬noPowerOnDue s := (not_noPowerOnDue_iff s).mpr ⟨hreset, hbegun⟩
  refine ⟨s.powerOn, step_powerOn hwf hdue, ?_⟩
  rw [s.powerOn_eq]
  exact ⟨s.deviceReset_after.of_same rfl rfl, rfl, rfl, rfl, rfl, State.count_of_not_running _ rfl, rfl, rfl, rfl⟩

end Sys2Proof.Machine

/-!
SUPPORT. What a wait measures for every spacing of polls (R69, R165): the line as a function of absolute time, the poll at
which a wait for a level ends, and what a wait without ingest points leaves to INGEST.
-/

namespace Sys2Proof.Machine

/-! ## The line in absolute time -/

/-- The line after engine events that leave CORE's driver as it was. -/
theorem Polled.line_advance {s t : State} (h : Polled s t) (hd : t.drive = s.drive) (i : Nat) :
    (t.advance i).line = (s.advance (t.now - s.now + i)).line := by
  rw [State.line_advance, State.line_advance, h.env, hd, List.drop_drop]

/-- With CORE's driver as it is, the line takes the level `lvl` at fine tick `D` and keeps it until fine tick `E`. -/
structure State.Takes (lvl : Bool) (D E : Nat) (s : State) : Prop where
  before : ∀ i, s.now + i < D → (s.advance i).line ≠ lvl
  after : ∀ i, D ≤ s.now + i → s.now + i < E → (s.advance i).line = lvl

theorem State.Takes.of_polled {lvl : Bool} {D E : Nat} {s t : State} (h : s.Takes lvl D E) (hp : Polled s t)
    (hd : t.drive = s.drive) : t.Takes lvl D E := by
  have hnow := hp.now_le
  constructor
  · intro i hi
    rw [hp.line_advance hd]
    exact h.before _ (by omega)
  · intro i hi hi'
    rw [hp.line_advance hd]
    exact h.after _ (by omega) (by omega)

theorem State.Takes.line_ne {lvl : Bool} {D E : Nat} {s : State} (h : s.Takes lvl D E) (hs : s.now < D) :
    s.line ≠ lvl :=
  h.before 0 hs

theorem State.Takes.line_eq {lvl : Bool} {D E : Nat} {s : State} (h : s.Takes lvl D E) (hs : D ≤ s.now)
    (hE : s.now < E) : s.line = lvl :=
  h.after 0 hs hE

/-- Through the first `m` ticks of the waveform the line is at the level. -/
theorem State.line_advance_eq {s : State} {lvl : Bool} {m i : Nat} {rest : List Bool} (hdrive : s.drive = false)
    (henv : s.env = List.replicate m lvl ++ rest) (hi : i < m) : (s.advance i).line = lvl := by
  have h := State.line_advance_ne (lvl := !lvl) hdrive (by rwa [Bool.not_not]) hi
  rwa [ne_eq, Bool.not_eq_not] at h

/-- A waveform that has the other level for `d` ticks and then the level for `m`. -/
theorem State.takes_of_env {s : State} {lvl : Bool} {d m E : Nat} {rest : List Bool} (hdrive : s.drive = false)
    (henv : s.env = List.replicate d (!lvl) ++ (List.replicate m lvl ++ rest)) (hE : E ≤ s.now + d + m) :
    s.Takes lvl (s.now + d) E := by
  constructor
  · intro i hi
    exact State.line_advance_ne hdrive henv (by omega)
  · intro i hi hi'
    obtain ⟨j, rfl⟩ := Nat.exists_eq_add_of_le (show d ≤ i by omega)
    have hlater : (s.advance d).env = List.replicate m lvl ++ rest := by
      rw [State.advance_env, henv, List.drop_left' (by simp)]
    have hline := State.line_advance_eq (s := s.advance d) hdrive hlater (show j < m by omega)
    rwa [State.line_advance, State.advance_env, List.drop_drop] at hline

/-! ## One poll of a wait -/

/-- A poll that reads the awaited level ends the wait (R69). -/
theorem pollLoop_of_line_eq {lvl : Bool} (T : Nat) (ing : Bool) (n : Nat) {s : State} (h : s.line = lvl) :
    pollLoop lvl T ing (n + 1) s = (s.waitPoll ing, (s.waitPoll ing).ticks) := by
  simp only [pollLoop, State.waitPoll_line, if_pos h]

/-- A poll that reads the other level below the limit is followed by the next one (R69). -/
theorem pollLoop_of_line_ne {lvl : Bool} {T : Nat} {ing : Bool} (n : Nat) {s : State} (h : s.line ≠ lvl)
    (hT : (s.waitPoll ing).ticks < T) :
    pollLoop lvl T ing (n + 1) s = pollLoop lvl T ing n ((s.waitPoll ing).toPoll 1) := by
  simp only [pollLoop, State.waitPoll_line, if_neg h, if_neg (Nat.not_le.mpr hT)]

/-- The first poll of a wait or hold falls by R68's bound on the time to the next event. -/
theorem State.firstPoll_now_le (s : State) (t : Nat) : ((s.dueBy t).toPoll 0).now ≤ s.now + s.slack := by
  have h := (s.dueBy t).pollGapFrom_le 0
  simp only [State.dueBy_slack] at h
  simp only [State.toPoll_now, State.dueBy_now]
  omega

/-- `w` is the result of a wait that started at `s` and saw the level, the count it read being that of its last poll. -/
structure SawLevel (lvl : Bool) (s : State) (w : State × Nat) : Prop where
  line : w.1.line = lvl
  count : w.2 = (w.1.now - s.timer.t0) / s.cfg.rTicks s.timer.res

/-- A poll before the wrap that reads the awaited level. -/
theorem sawLevel_waitPoll {lvl : Bool} (ing : Bool) {s : State} (hrun : s.timer.running = true)
    (hwrap : s.now - s.timer.t0 < 256 * s.cfg.rTicks s.timer.res) (hl : s.line = lvl) :
    SawLevel lvl s (s.waitPoll ing, (s.waitPoll ing).ticks) :=
  ⟨(s.waitPoll_line ing).trans hl, by rw [s.waitPoll_ticks ing hrun hwrap, State.waitPoll_now]⟩

/-! ## The wait for a level that comes -/

/-- From a poll, a wait for a level that the line takes at `D` and keeps for `POLL_GAP` ends at a poll less than
`POLL_GAP` after `D`: the poll after the last one before `D` comes in time, and the limit lies beyond it (R68, R69). -/
theorem pollLoop_takes {lvl : Bool} {T D : Nat} (ing : Bool) (n : Nat) (s : State) (hc : Counting s)
    (hg : 1 ≤ s.cfg.pollGap) (hT : T ≤ 255) (hlevel : s.Takes lvl D (D + s.cfg.pollGap))
    (hnow : s.now < D + s.cfg.pollGap) (hlimit : D + s.cfg.pollGap ≤ s.timer.t0 + T * s.cfg.rTicks s.timer.res)
    (hn : D < s.now + n) (hn1 : 1 ≤ n) :
    SawLevel lvl s (pollLoop lvl T ing n s) ∧ D ≤ (pollLoop lvl T ing n s).1.now ∧
      (pollLoop lvl T ing n s).1.now < D + s.cfg.pollGap := by
  induction n generalizing s with
  | zero => omega
  | succ n ih =>
    have hsince := hc.since
    have hnowrap : T * s.cfg.rTicks s.timer.res ≤ 255 * s.cfg.rTicks s.timer.res := Nat.mul_le_mul_right _ hT
    have hwrap : s.now - s.timer.t0 < 256 * s.cfg.rTicks s.timer.res := by omega
    by_cases hD : D ≤ s.now
    · have hl := hlevel.line_eq hD hnow
      rw [pollLoop_of_line_eq T ing n hl, State.waitPoll_now]
      exact ⟨sawLevel_waitPoll ing hc.running hwrap hl, hD, hnow⟩
    · have hbelow : (s.waitPoll ing).ticks < T := by
        rw [s.waitPoll_ticks ing hc.running hwrap]
        exact Nat.div_lt_of_lt_mul (by rw [Nat.mul_comm]; omega)
      have hp := (polled_waitPoll ing s).trans (polled_toPoll 1 _)
      have hw := (watched_waitPoll ing s).trans (watched_toPoll 1 _)
      have hstep := (s.waitPoll ing).toPoll_one_now ((polled_waitPoll ing s).paced hc.paced) (by simpa using hg)
      rw [State.waitPoll_now, State.waitPoll_cfg] at hstep
      rw [pollLoop_of_line_ne n (hlevel.line_ne (Nat.lt_of_not_le hD)) hbelow]
      generalize (s.waitPoll ing).toPoll 1 = u at *
      have hrest := ih u (hc.of_polled hp hw.timer)
      rw [hp.cfg, hw.timer] at hrest
      obtain ⟨⟨hline, hcount⟩, hlast⟩ :=
        hrest hg (hlevel.of_polled hp hw.drive) (by omega) hlimit (by omega) (by omega)
      rw [hp.cfg, hw.timer] at hcount
      exact ⟨⟨hline, hcount⟩, hlast⟩

/-- A wait that starts at its timer's start, with the line away from the level (R69, R165). -/
theorem pollUntil_takes {lvl : Bool} {T d : Nat} (ing : Bool) {s : State} (hc : Counting s) (hg : 1 ≤ s.cfg.pollGap)
    (ht0 : s.timer.t0 = s.now) (hd : 1 ≤ d) (hT : T ≤ 255)
    (hlevel : s.Takes lvl (s.now + d) (s.now + d + s.cfg.pollGap))
    (hlimit : d + s.cfg.pollGap ≤ T * s.cfg.rTicks s.timer.res) :
    SawLevel lvl s (pollUntil lvl T ing s) ∧ s.now + d ≤ (pollUntil lvl T ing s).1.now ∧
      (pollUntil lvl T ing s).1.now < s.now + d + s.cfg.pollGap := by
  have hp := (polled_dueBy (s.waitDue lvl) s).trans (polled_toPoll 0 _)
  have hw := watched_firstPoll (s.waitDue lvl) s
  have hfirst := s.firstPoll_now_le (s.waitDue lvl)
  have hsince := hp.now_le
  have hpaced := hc.paced
  unfold pollUntil State.pollBound
  generalize (s.dueBy (s.waitDue lvl)).toPoll 0 = u at *
  have h := pollLoop_takes (lvl := lvl) (T := T) (D := s.now + d) ing (T * s.cfg.rTicks s.timer.res + 1) u
    (hc.of_polled hp hw.timer)
  rw [hp.cfg, hw.timer] at h
  obtain ⟨⟨hline, hcount⟩, hlast⟩ :=
    h hg hT (hlevel.of_polled hp hw.drive) (by omega) (by omega) (by omega) (Nat.le_add_left ..)
  rw [hp.cfg, hw.timer] at hcount
  exact ⟨⟨hline, hcount⟩, hlast⟩

/-- A wait that starts with the line at its level, which lasts for `POLL_GAP`, ends at its first poll, within R165's
formula (R69, R165; log entry 25). -/
theorem pollUntil_at_level {lvl : Bool} (T : Nat) (ing : Bool) {s : State} (hc : Counting s)
    (hr : 1 ≤ s.cfg.rTicks s.timer.res) (hwrap : s.now ≤ s.wrapDue)
    (hlevel : s.Takes lvl s.now (s.now + s.cfg.pollGap + 1)) :
    SawLevel lvl s (pollUntil lvl T ing s) ∧ s.now ≤ (pollUntil lvl T ing s).1.now ∧
      (pollUntil lvl T ing s).2 ≤ (s.now - s.timer.t0 + (s.cfg.pollGap - 1)) / s.cfg.rTicks s.timer.res := by
  have hp := (polled_dueBy (s.waitDue lvl) s).trans (polled_toPoll 0 _)
  have hw := watched_firstPoll (s.waitDue lvl) s
  have hfirst := s.firstPoll_now_le (s.waitDue lvl)
  have hdue := (s.toPoll_dueBy_le _ (s.now_le_waitDue lvl hr hc.since hwrap)).trans (s.waitDue_le lvl)
  have hformula := s.firstPoll_at_level lvl hr hc.since hwrap (hlevel.line_eq (Nat.le_refl _) (by omega))
  have hnow := hp.now_le
  have hsince := hc.since
  have hpaced := hc.paced
  unfold pollUntil State.pollBound
  generalize (s.dueBy (s.waitDue lvl)).toPoll 0 = u at *
  have hline := (hlevel.of_polled hp hw.drive).line_eq hnow (by omega)
  have hunwrapped : u.now - u.timer.t0 < 256 * u.cfg.rTicks u.timer.res := by
    rw [State.wrapDue] at hdue
    rw [hp.cfg, hw.timer]
    omega
  rw [pollLoop_of_line_eq T ing _ hline]
  obtain ⟨hsaw, hcount⟩ := sawLevel_waitPoll ing (hw.timer ▸ hc.running) hunwrapped hline
  rw [hp.cfg, hw.timer] at hcount
  rw [State.waitPoll_now] at hcount ⊢
  exact ⟨⟨hsaw, by rwa [State.waitPoll_now]⟩, hnow, hcount.trans_le hformula⟩

/-! ## Waits without ingest points -/

/-- From `s` to `t` INGEST has performed nothing and given no result. -/
def NoIngest (s t : State) : Prop := t.ingestIn = s.ingestIn ∧ t.regs = s.regs ∧ t.ingestOut = s.ingestOut

theorem noIngest_waitPoll (s : State) : NoIngest s (s.waitPoll false) := ⟨rfl, rfl, rfl⟩

theorem noIngest_pollLoop (lvl : Bool) (T n : Nat) (s : State) : NoIngest s (pollLoop lvl T false n s).1 := by
  induction n generalizing s with
  | zero => exact ⟨rfl, rfl, rfl⟩
  | succ n ih =>
    simp only [pollLoop]
    split
    · exact noIngest_waitPoll s
    · split
      · exact noIngest_waitPoll s
      · exact ih ((s.waitPoll false).toPoll 1)

/-- `PollUntil` with `ing = 0` makes no ingest point (R40, R69, R72). -/
theorem noIngest_pollUntil (lvl : Bool) (T : Nat) {ing : Bool} (h : ing = false) (s : State) :
    NoIngest s (pollUntil lvl T ing s).1 := by
  subst h
  exact noIngest_pollLoop lvl T _ ((s.dueBy (s.waitDue lvl)).toPoll 0)

/-- Settles O56: the wait's last poll is the first one at or after the line's change, so it comes less than `POLL_GAP`
after it; a wait that starts at the level ends at its first poll, which R165 bounds. -/
theorem waitMeasuresInterval : Obligations.WaitMeasuresInterval := by
  refine ⟨?_, ?_⟩
  · intro s lvl ing res T d m rest hwf hdrive hslack hd hm hT hlimit henv
    have hr := Config.one_le_rTicks hwf res
    rw [List.append_assoc] at henv
    rw [Nat.div_lt_iff_lt_mul hr] at hlimit
    have hlevel : (s.startTimerNow res).Takes lvl (s.now + d) (s.now + d + s.cfg.pollGap) :=
      State.takes_of_env (s := s.startTimerNow res) hdrive henv (Nat.add_le_add_left hm _)
    obtain ⟨⟨hline, hcount⟩, hlow, hhigh⟩ := pollUntil_takes ing (counting_startTimerNow hslack res)
      (Config.ratio_bounds hwf).2 rfl hd hT hlevel (show d + s.cfg.pollGap ≤ T * s.cfg.rTicks res by omega)
    have hidle (h : ing = false) := noIngest_pollUntil lvl T h (s.startTimerNow res)
    generalize pollUntil lvl T ing (s.startTimerNow res) = w at *
    simp only [State.startTimerNow_now, State.startTimerNow_cfg, State.startTimerNow_timer] at hcount hlow hhigh
    refine ⟨w.1, w.2, rfl, hline, ?_, ?_, hidle⟩
    · rw [hcount]
      exact Nat.div_le_div_right (by omega)
    · rw [hcount]
      exact Nat.div_le_div_right (by omega)
  · intro s lvl ing res T d t0 m rest hwf hdrive hslack htimer hnow hm hwrap henv
    have hr := Config.one_le_rTicks hwf res
    have hg := (Config.ratio_bounds hwf).2
    have hlevel : s.Takes lvl s.now (s.now + s.cfg.pollGap + 1) :=
      State.takes_of_env (d := 0) hdrive henv (by omega)
    rw [← Nat.lt_succ_iff, Nat.div_lt_iff_lt_mul hr] at hwrap
    have hcounting : Counting s := ⟨by rw [htimer], by simp only [htimer]; omega, hslack⟩
    obtain ⟨⟨hline, hcount⟩, hlow, hhigh⟩ := pollUntil_at_level T ing hcounting (by rwa [htimer])
      (by simp only [State.wrapDue, htimer]; omega) hlevel
    have hidle (h : ing = false) := noIngest_pollUntil lvl T h s
    generalize pollUntil lvl T ing s = w at *
    simp only [htimer, hnow, Nat.add_sub_cancel_left, ← Nat.add_sub_assoc hg] at hcount hlow hhigh
    refine ⟨w.1, w.2, rfl, hline, ?_, hhigh, hidle⟩
    rw [hcount]
    exact Nat.div_le_div_right (by omega)

end Sys2Proof.Machine
